-- ==== Sys2Proof/Config.lean ====
section
/-! DEFINITION. The block's parameters (00_scope.md R6), its hardwired constant set (10_state.md R25) and
the values the spec leaves open. R6 asks that each literal be a named constant. -/

namespace Sys2Proof.Config

/-- `ID_WIDTH` (R6). -/
@[simp] abbrev idWidth : Nat := 32
/-- `PAYLOAD_BYTES` (R6). -/
@[simp] abbrev payloadBytes : Nat := 8
/-- `LEN_MAX` (R6): the largest legal length. -/
abbrev lenMax : Nat := 8
/-- `LEN_WIDTH` (R6, decision D2). -/
@[simp] abbrev lenWidth : Nat := 4
/-- `BASE_ID` (R6, R25). -/
def baseId : BitVec idWidth := 0x000000A0#idWidth
/-- `FAULT_ID` (R6, R25). -/
def faultId : BitVec idWidth := 0x000000AB#idWidth
/-- `TYPE_MAX` (R6, R25), bits [5:0]. -/
def typeMax : BitVec 6 := 0x2F#6
/-- `DIV_STD` (R6). -/
abbrev divStd : Nat := 10
/-- `DIV_LV` (R6). -/
abbrev divLv : Nat := 100
/-- `DIV_UNIT` (R6). -/
abbrev divUnit : Nat := 1
/-- `TICK_SECONDS` = 3/1000 (R6): its numerator. -/
abbrev tickNum : Nat := 3
/-- `TICK_SECONDS` = 3/1000 (R6): its denominator. -/
abbrev tickDen : Nat := 1000
/-- `CATALOG_SIZE` (R6). -/
@[simp] abbrev catalogSize : Nat := 32
/-- `FAULT_WORD_WIDTH` (R6). -/
@[simp] abbrev faultWordWidth : Nat := 16
/-- The bits of the payload on the inbound port, `DATA64` (20_memory.md R54): `PAYLOAD_BYTES` bytes of 8 bits. -/
@[simp] abbrev dataWidth : Nat := 8 * payloadBytes
/-- The bits of one frame on the inbound port (30_encoding.md R70): 64 + 4 + 32 = 100, from the widths of R6. -/
@[simp] abbrev frameBits : Nat := dataWidth + lenWidth + idWidth

/-- The two values of `SHORT_FRAME_POLICY` (R25). -/
inductive ShortFramePolicy where
  | zeroPad
  | rawBuffer
  deriving DecidableEq, Repr

/-- Bit 0 of `SHORT_FRAME_POLICY` (R25): 0 = `ZERO_PAD`, 1 = `RAW_BUFFER`. -/
def ShortFramePolicy.bit : ShortFramePolicy → BitVec 1
  | .zeroPad => 0#1
  | .rawBuffer => 1#1

/-- `SHORT_FRAME_POLICY` as this hardware takes it (R6, R25, R101, decision D8). -/
def shortFramePolicy : ShortFramePolicy := .zeroPad

/-- What a payload byte at index k ≥ LEN reads under the alternative policy `RAW_BUFFER` (41_field_extractor.md R101):
any value, a free draw per byte per frame, the frame being numbered by its draw (log 17). This hardware takes
`ZERO_PAD` and draws none. -/
opaque rawBufferByte : (draw : Nat) → (k : Nat) → BitVec 8

/-- `LATENCY` (R6, R255): OPEN, at least 0 cycles. The model has no time and nothing reads it (log 10). -/
opaque latency : Nat

/-- `RENDER_FLOAT` (R6, R113): OPEN. The bytes of whatever float format the sink converts `raw / div` to;
a free value of the raw integer and the divisor (log 11). -/
opaque renderFloat : Int → Nat → List (BitVec 8)

/-- The latch's `ID` after the host's reset move: unspecified (R33, R250), a free value per draw (log 3). -/
opaque freeLatchId : Nat → BitVec idWidth
/-- The latch's `LEN` after the host's reset move: unspecified (R33, R250), a free value per draw (log 3). -/
opaque freeLatchLen : Nat → BitVec lenWidth
/-- The latch's `DATA64` after the host's reset move: unspecified (R33, R250), a free value per draw (log 3). -/
opaque freeLatchData : Nat → BitVec dataWidth

end Sys2Proof.Config
end

