-- ==== Sys2Proof/Word.lean ====
section
/-! DEFINITION. The machine's words, of the widths `Config` names (00_scope.md R6). -/

namespace Sys2Proof

/-- One payload byte (10_state.md R21). -/
abbrev Byte := BitVec 8
/-- The arbitration identifier `ID[31:0]` (R21, R70). -/
abbrev CanId := BitVec Config.idWidth
/-- The length `LEN[3:0]` (R21, R70). -/
abbrev Len := BitVec Config.lenWidth
/-- `msg_type = ID - BASE_ID`, 6 bits (44_router_dispatch.md R183). -/
abbrev MsgType := BitVec 6
/-- A fault word, a 16-bit mask (43_fault_decoder.md R151). -/
abbrev FaultWord := BitVec Config.faultWordWidth
/-- A triggered vector, one bit per catalog entry (R153, 10_state.md R29). -/
abbrev FaultVec := BitVec Config.catalogSize
/-- An offset at which an access of `n` bytes stays inside the payload: k + n ≤ PAYLOAD_BYTES
(41_field_extractor.md R114). -/
abbrev Offset (n : Nat) := Fin (Config.payloadBytes - n + 1)
/-- The 100 bits of one frame on the inbound port (30_encoding.md R70). -/
abbrev PortWord := BitVec Config.frameBits

/-- An access at its offset stays inside the payload (R114). -/
theorem Offset.fits {n : Nat} (k : Offset n) (h : n ≤ Config.payloadBytes) : k.val + n ≤ Config.payloadBytes := by
  have := k.isLt
  omega

end Sys2Proof
end

