-- ==== Sys2Proof/Syntax.lean ====
section
/-! DEFINITION. The instruction set: an instruction is one frame (30_encoding.md R70), one constructor per row
of spec/opcode_table.json. -/

namespace Sys2Proof

/-- `DATA[0..7]` (10_state.md R21), byte 0 first on the bus. -/
structure Payload where
  b0 : Byte
  b1 : Byte
  b2 : Byte
  b3 : Byte
  b4 : Byte
  b5 : Byte
  b6 : Byte
  b7 : Byte
  deriving DecidableEq, Repr

/-- A frame: the triple (id, length, payload) (00_scope.md R15, 10_state.md R21). The frame latch holds one. -/
structure Frame where
  id   : CanId
  len  : Len
  data : Payload
  deriving DecidableEq, Repr

/-- One constructor per opcode row. `len` and `data` are the frame's operands; where a row's pattern leaves
identifier bits open, they are an operand too. -/
inductive Instr where
  /-- REFUSE: any ID, LEN 9..15 (R83). -/
  | refuse (id : CanId) (len : Len) (data : Payload)
  /-- FAULT: ID 0x0AB, format FW (R187). -/
  | fault (len : Len) (data : Payload)
  /-- TEMPS_1: ID 0x0A0, format Q16 (R188). -/
  | temps1 (len : Len) (data : Payload)
  /-- TEMPS_2: ID 0x0A1, format Q16 (R189). -/
  | temps2 (len : Len) (data : Payload)
  /-- TEMPS_3: ID 0x0A2, format Q16 (R190). -/
  | temps3 (len : Len) (data : Payload)
  /-- MOTOR_POSITION: ID 0x0A5, format Q16 (R191). -/
  | motorPosition (len : Len) (data : Payload)
  /-- CURRENTS: ID 0x0A6, format Q16 (R192). -/
  | currents (len : Len) (data : Payload)
  /-- VOLTAGES: ID 0x0A7, format Q16 (R193). -/
  | voltages (len : Len) (data : Payload)
  /-- INTERNAL_STATES: ID 0x0AA, format ST (R194). -/
  | internalStates (len : Len) (data : Payload)
  /-- TORQUE_TIMER: ID 0x0AC, format TT (R195). -/
  | torqueTimer (len : Len) (data : Payload)
  /-- UNHANDLED_03: ID 0x0A3, format NONE (R196). -/
  | unhandled03 (len : Len) (data : Payload)
  /-- UNHANDLED_04: ID 0x0A4 (R196). -/
  | unhandled04 (len : Len) (data : Payload)
  /-- UNHANDLED_08_09: ID 0x0A8 with its bit 0 open (R196). -/
  | unhandled08_09 (low : BitVec 1) (len : Len) (data : Payload)
  /-- UNHANDLED_0D: ID 0x0AD (R196). -/
  | unhandled0D (len : Len) (data : Payload)
  /-- UNHANDLED_0E_0F: ID 0x0AE with its bit 0 open (R196). -/
  | unhandled0E_0F (low : BitVec 1) (len : Len) (data : Payload)
  /-- UNHANDLED_10_1F: ID 0x0B0 with its bits 3..0 open (R196). -/
  | unhandled10_1F (low : BitVec 4) (len : Len) (data : Payload)
  /-- UNHANDLED_20_2F: ID 0x0C0 with its bits 3..0 open (R196). -/
  | unhandled20_2F (low : BitVec 4) (len : Len) (data : Payload)
  /-- DROP: any ID no other row matches (R186). -/
  | drop (id : CanId) (len : Len) (data : Payload)
  deriving DecidableEq, Repr

end Sys2Proof
end

