-- ==== Sys2Proof/WellFormed.lean ====
section
/-! DEFINITION. Which terms of `Instr` are frames of their row: the length column (30_encoding.md R83, R87) and,
for DROP, the identifiers no other row matches (R84). -/

namespace Sys2Proof

/-- `LEN` in 0..8 (R21). -/
def Len.legal (len : Len) : Bool := decide (len.toNat ≤ Config.lenMax)

/-- `ID` in `[BASE_ID, BASE_ID + TYPE_MAX]`, an unsigned 32-bit comparison (44_router_dispatch.md R182). -/
def CanId.inRange (id : CanId) : Bool :=
  decide (Config.baseId.toNat ≤ id.toNat ∧ id.toNat ≤ Config.baseId.toNat + Config.typeMax.toNat)

/-- An instruction is well formed when its length and identifier are those of its row. -/
def Instr.wellFormed : Instr → Bool
  | .refuse _ len _ => !Len.legal len
  | .fault len _ => Len.legal len
  | .temps1 len _ => Len.legal len
  | .temps2 len _ => Len.legal len
  | .temps3 len _ => Len.legal len
  | .motorPosition len _ => Len.legal len
  | .currents len _ => Len.legal len
  | .voltages len _ => Len.legal len
  | .internalStates len _ => Len.legal len
  | .torqueTimer len _ => Len.legal len
  | .unhandled03 len _ => Len.legal len
  | .unhandled04 len _ => Len.legal len
  | .unhandled08_09 _ len _ => Len.legal len
  | .unhandled0D len _ => Len.legal len
  | .unhandled0E_0F _ len _ => Len.legal len
  | .unhandled10_1F _ len _ => Len.legal len
  | .unhandled20_2F _ len _ => Len.legal len
  | .drop id len _ => Len.legal len && !CanId.inRange id && decide (id ≠ Config.faultId)

end Sys2Proof
end

