-- ==== Sys2Proof/Decode.lean ====
section
/-! DEFINITION. From the bits of a frame to an instruction (30_encoding.md R70 to R87, 44_router_dispatch.md
R180 to R184), the encoder the other way, the opcode table of R87 as data, and frames as R86 writes them. -/

namespace Sys2Proof

/-! ### The port word (R70, 20_memory.md R54) -/

/-- `DATA64`: byte k at bits [8k+7:8k] (R54). -/
def Payload.data64 (d : Payload) : BitVec Config.dataWidth :=
  d.b7 ++ d.b6 ++ d.b5 ++ d.b4 ++ d.b3 ++ d.b2 ++ d.b1 ++ d.b0

/-- The eight bytes of a `DATA64` (R54). -/
def Payload.ofData64 (w : BitVec Config.dataWidth) : Payload :=
  { b0 := w.extractLsb' 0 8
    b1 := w.extractLsb' 8 8
    b2 := w.extractLsb' 16 8
    b3 := w.extractLsb' 24 8
    b4 := w.extractLsb' 32 8
    b5 := w.extractLsb' 40 8
    b6 := w.extractLsb' 48 8
    b7 := w.extractLsb' 56 8 }

/-- The 100 bits of a frame (R70). DESIGN CHOICE (log 1): `ID` lowest, then `LEN`, then `DATA64`; R70 gives the
three fields and their widths, not their order in one word. -/
def Frame.portWord (f : Frame) : PortWord := f.data.data64 ++ f.len ++ f.id

/-- The frame on a port word (log 1). -/
def Frame.ofPortWord (w : PortWord) : Frame :=
  { id := w.extractLsb' 0 Config.idWidth
    len := w.extractLsb' Config.idWidth Config.lenWidth
    data := Payload.ofData64 (w.extractLsb' (Config.idWidth + Config.lenWidth) Config.dataWidth) }

/-! ### The decoder (R72) -/

/-- Step 1 of R72: `LEN > 8`. -/
def lenTooLong (len : Len) : Bool := decide (Config.lenMax < len.toNat)

/-- Step 3 of R72: `BASE_ID ≤ ID ≤ BASE_ID + TYPE_MAX`, unsigned, inclusive at both ends (R182). -/
def idInRange (id : CanId) : Bool :=
  decide (Config.baseId.toNat ≤ id.toNat) && decide (id.toNat ≤ Config.baseId.toNat + Config.typeMax.toNat)

/-- `msg_type = ID - BASE_ID`, in 6 bits (R183). -/
def msgType (id : CanId) : MsgType := (id - Config.baseId).setWidth 6

/-- The row of a message type, by its exact value (R80, R184). Type 0x0B is shadowed: the only identifier that
gives it is FAULT_ID, which step 2 of R72 has already taken (R82), so that line is never reached. -/
def decodeType (t : MsgType) (len : Len) (data : Payload) : Instr :=
  match t.toNat with
  | 0x00 => .temps1 len data
  | 0x01 => .temps2 len data
  | 0x02 => .temps3 len data
  | 0x03 => .unhandled03 len data
  | 0x04 => .unhandled04 len data
  | 0x05 => .motorPosition len data
  | 0x06 => .currents len data
  | 0x07 => .voltages len data
  | 0x08 => .unhandled08_09 0#1 len data
  | 0x09 => .unhandled08_09 1#1 len data
  | 0x0A => .internalStates len data
  | 0x0B => .fault len data
  | 0x0C => .torqueTimer len data
  | 0x0D => .unhandled0D len data
  | 0x0E => .unhandled0E_0F 0#1 len data
  | 0x0F => .unhandled0E_0F 1#1 len data
  | n => if n < 0x20 then .unhandled10_1F (t.setWidth 4) len data else .unhandled20_2F (t.setWidth 4) len data

/-- The decoder, in the fixed test order of R72. It is total: every frame is an instruction. -/
def decodeFrame (f : Frame) : Instr :=
  if lenTooLong f.len then .refuse f.id f.len f.data
  else if f.id = Config.faultId then .fault f.len f.data
  else if idInRange f.id then decodeType (msgType f.id) f.len f.data
  else .drop f.id f.len f.data

/-- The instruction on a port word. -/
def decode (w : PortWord) : Instr := decodeFrame (Frame.ofPortWord w)

/-! ### The encoder -/

/-- The frame of message type `t` (R183). -/
def typeFrame (t : MsgType) (len : Len) (data : Payload) : Frame :=
  { id := Config.baseId + t.setWidth Config.idWidth, len := len, data := data }

/-- The frame an instruction stands for, from the `match` column of spec/opcode_table.json. -/
def encodeFrame : Instr → Frame
  | .refuse id len data => { id := id, len := len, data := data }
  | .fault len data => { id := Config.faultId, len := len, data := data }
  | .temps1 len data => typeFrame 0x00#6 len data
  | .temps2 len data => typeFrame 0x01#6 len data
  | .temps3 len data => typeFrame 0x02#6 len data
  | .motorPosition len data => typeFrame 0x05#6 len data
  | .currents len data => typeFrame 0x06#6 len data
  | .voltages len data => typeFrame 0x07#6 len data
  | .internalStates len data => typeFrame 0x0A#6 len data
  | .torqueTimer len data => typeFrame 0x0C#6 len data
  | .unhandled03 len data => typeFrame 0x03#6 len data
  | .unhandled04 len data => typeFrame 0x04#6 len data
  | .unhandled08_09 low len data => typeFrame (0x08#6 + low.setWidth 6) len data
  | .unhandled0D len data => typeFrame 0x0D#6 len data
  | .unhandled0E_0F low len data => typeFrame (0x0E#6 + low.setWidth 6) len data
  | .unhandled10_1F low len data => typeFrame (0x10#6 + low.setWidth 6) len data
  | .unhandled20_2F low len data => typeFrame (0x20#6 + low.setWidth 6) len data
  | .drop id len data => { id := id, len := len, data := data }

/-- The port word of an instruction. -/
def encode (i : Instr) : PortWord := (encodeFrame i).portWord

/-! ### Bytes (log 1) -/

/-- `n` bytes of a number, least significant first. -/
def bytesOfNat : Nat → Nat → List Byte
  | 0, _ => []
  | n + 1, w => BitVec.ofNat 8 w :: bytesOfNat n (w / 256)

/-- The number whose bytes, least significant first, are the list. -/
def natOfBytes : List Byte → Nat
  | [] => 0
  | b :: bs => b.toNat + 256 * natOfBytes bs

/-- The bytes of a frame's image, 13: its 100 bits in whole bytes (log 1). -/
def frameBytes : Nat := (Config.frameBits + 7) / 8

/-- Why a byte string is no frame image. -/
inductive DecodeError where
  /-- Fewer than 13 bytes. -/
  | truncated
  /-- One of the four bits above the frame's 100 is set. -/
  | padding
  deriving DecidableEq, Repr

/-- The frame at the head of a byte string and the rest of the string, total on any bytes. -/
def decodeBytes (bs : List Byte) : Except DecodeError (Instr × List Byte) :=
  if bs.length < frameBytes then .error .truncated
  else if 2 ^ Config.frameBits ≤ natOfBytes (bs.take frameBytes) then .error .padding
  else .ok (decode (BitVec.ofNat Config.frameBits (natOfBytes (bs.take frameBytes))), bs.drop frameBytes)

/-- The byte image of an instruction. -/
def encodeBytes (i : Instr) : List Byte := bytesOfNat frameBytes (encode i).toNat

/-- The frame whose low `nbits` bits are those of `w`, every bit above them 0 (the table gives a row its ID alone,
so LEN and DATA64 are then 0). -/
def frameOfTableWord (nbits w : Nat) : Frame := Frame.ofPortWord (BitVec.ofNat Config.frameBits (w % 2 ^ nbits))

/-- The instruction the decoder reads from the low `nbits` bits `w`, laid out as a frame image. -/
def decodeTableWord (nbits w : Nat) : Option Instr :=
  match decodeBytes (bytesOfNat frameBytes (w % 2 ^ nbits)) with
  | .ok (i, _) => some i
  | .error _ => none

/-! ### The opcode table as data (R87) -/

/-- The rows of spec/opcode_table.json, by name. -/
inductive Opcode where
  | refuse
  | fault
  | temps1
  | temps2
  | temps3
  | motorPosition
  | currents
  | voltages
  | internalStates
  | torqueTimer
  | unhandled03
  | unhandled04
  | unhandled08_09
  | unhandled0D
  | unhandled0E_0F
  | unhandled10_1F
  | unhandled20_2F
  | drop
  deriving DecidableEq, Repr

/-- One row of the table: `match`, `mask` and `priority`; `long` marks the row with `"len": "9..15"` (R87). -/
structure OpcodeRow where
  op       : Opcode
  pattern  : CanId
  mask     : CanId
  priority : Nat
  long     : Bool
  deriving DecidableEq, Repr

/-- spec/opcode_table.json, row by row. -/
def opcodeTable : List OpcodeRow :=
  [ ⟨.refuse,         0x00000000#Config.idWidth, 0x00000000#Config.idWidth, 0, true⟩,
    ⟨.fault,          0x000000AB#Config.idWidth, 0xFFFFFFFF#Config.idWidth, 1, false⟩,
    ⟨.temps1,         0x000000A0#Config.idWidth, 0xFFFFFFFF#Config.idWidth, 2, false⟩,
    ⟨.temps2,         0x000000A1#Config.idWidth, 0xFFFFFFFF#Config.idWidth, 3, false⟩,
    ⟨.temps3,         0x000000A2#Config.idWidth, 0xFFFFFFFF#Config.idWidth, 4, false⟩,
    ⟨.motorPosition,  0x000000A5#Config.idWidth, 0xFFFFFFFF#Config.idWidth, 5, false⟩,
    ⟨.currents,       0x000000A6#Config.idWidth, 0xFFFFFFFF#Config.idWidth, 6, false⟩,
    ⟨.voltages,       0x000000A7#Config.idWidth, 0xFFFFFFFF#Config.idWidth, 7, false⟩,
    ⟨.internalStates, 0x000000AA#Config.idWidth, 0xFFFFFFFF#Config.idWidth, 8, false⟩,
    ⟨.torqueTimer,    0x000000AC#Config.idWidth, 0xFFFFFFFF#Config.idWidth, 9, false⟩ ] ++
  [ ⟨.unhandled03,    0x000000A3#Config.idWidth, 0xFFFFFFFF#Config.idWidth, 10, false⟩,
    ⟨.unhandled04,    0x000000A4#Config.idWidth, 0xFFFFFFFF#Config.idWidth, 11, false⟩,
    ⟨.unhandled08_09, 0x000000A8#Config.idWidth, 0xFFFFFFFE#Config.idWidth, 12, false⟩,
    ⟨.unhandled0D,    0x000000AD#Config.idWidth, 0xFFFFFFFF#Config.idWidth, 13, false⟩,
    ⟨.unhandled0E_0F, 0x000000AE#Config.idWidth, 0xFFFFFFFE#Config.idWidth, 14, false⟩,
    ⟨.unhandled10_1F, 0x000000B0#Config.idWidth, 0xFFFFFFF0#Config.idWidth, 15, false⟩,
    ⟨.unhandled20_2F, 0x000000C0#Config.idWidth, 0xFFFFFFF0#Config.idWidth, 16, false⟩,
    ⟨.drop,           0x00000000#Config.idWidth, 0x00000000#Config.idWidth, 99, false⟩ ]

/-- A row applies to a frame: its pattern matches the identifier, and it is the length row exactly when
`LEN > 8` (R87). -/
def OpcodeRow.applies (r : OpcodeRow) (f : Frame) : Bool :=
  decide (f.id &&& r.mask = r.pattern) && (r.long == lenTooLong f.len)

/-- The better of two rows: the lower priority number (R87). -/
def OpcodeRow.better (a b : OpcodeRow) : OpcodeRow := if b.priority < a.priority then b else a

/-- The row of lowest priority number among a list. -/
def lowestPriority : List OpcodeRow → Option OpcodeRow
  | [] => none
  | r :: rs =>
    match lowestPriority rs with
    | none => some r
    | some b => some (OpcodeRow.better r b)

/-- The row R87 picks for a frame: the applicable row with the lowest priority number. -/
def tableLookup (f : Frame) : Option Opcode :=
  (lowestPriority (opcodeTable.filter fun r => r.applies f)).map OpcodeRow.op

/-- The row of an instruction. -/
def Instr.opcode : Instr → Opcode
  | .refuse _ _ _ => .refuse
  | .fault _ _ => .fault
  | .temps1 _ _ => .temps1
  | .temps2 _ _ => .temps2
  | .temps3 _ _ => .temps3
  | .motorPosition _ _ => .motorPosition
  | .currents _ _ => .currents
  | .voltages _ _ => .voltages
  | .internalStates _ _ => .internalStates
  | .torqueTimer _ _ => .torqueTimer
  | .unhandled03 _ _ => .unhandled03
  | .unhandled04 _ _ => .unhandled04
  | .unhandled08_09 _ _ _ => .unhandled08_09
  | .unhandled0D _ _ => .unhandled0D
  | .unhandled0E_0F _ _ _ => .unhandled0E_0F
  | .unhandled10_1F _ _ _ => .unhandled10_1F
  | .unhandled20_2F _ _ _ => .unhandled20_2F
  | .drop _ _ _ => .drop

/-! ### Written frames (R86; log 13)

Lines are lists of characters. Nothing in the machine reads one. -/

/-- The value of a hexadecimal digit, of either case. -/
def hexValue (c : Char) : Option Nat :=
  if '0' ≤ c ∧ c ≤ '9' then some (c.toNat - 48)
  else if 'A' ≤ c ∧ c ≤ 'F' then some (c.toNat - 55)
  else if 'a' ≤ c ∧ c ≤ 'f' then some (c.toNat - 87)
  else none

/-- The value of a decimal digit. -/
def decValue (c : Char) : Option Nat := if '0' ≤ c ∧ c ≤ '9' then some (c.toNat - 48) else none

/-- The number a list of digits writes in a base, after the digits worth `acc`. -/
def readDigits (base : Nat) (value : Char → Option Nat) : Nat → List Char → Option Nat
  | acc, [] => some acc
  | acc, c :: cs =>
    match value c with
    | some d => readDigits base value (acc * base + d) cs
    | none => none

/-- The number a list of at least one digit writes. -/
def readNumber (base : Nat) (value : Char → Option Nat) (cs : List Char) : Option Nat :=
  match cs with
  | [] => none
  | c :: rest => readDigits base value 0 (c :: rest)

/-- The pieces of a list between the occurrences of a character. -/
def splitAtChar (sep : Char) : List Char → List (List Char)
  | [] => [[]]
  | c :: cs =>
    if c = sep then [] :: splitAtChar sep cs
    else
      match splitAtChar sep cs with
      | [] => [[c]]
      | w :: ws => (c :: w) :: ws

/-- `id`: hexadecimal with `0x` before it, at most 32 bits. -/
def readId : List Char → Option CanId
  | '0' :: 'x' :: ds => (readNumber 16 hexValue ds).bind fun n => if n < 2 ^ Config.idWidth then some (BitVec.ofNat Config.idWidth n) else none
  | _ => none

/-- `len`: decimal 0..15, after `len=`. -/
def readLen : List Char → Option Len
  | 'l' :: 'e' :: 'n' :: '=' :: ds =>
    (readNumber 10 decValue ds).bind fun n => if n < 2 ^ Config.lenWidth then some (BitVec.ofNat Config.lenWidth n) else none
  | _ => none

/-- `byte`: two hexadecimal digits. -/
def readByte : List Char → Option Byte
  | [h, l] => (hexValue h).bind fun a => (hexValue l).bind fun b => some (BitVec.ofNat 8 (16 * a + b))
  | _ => none

/-- The eight bytes, DATA[0] first, after `data=`. -/
def readData : List Char → Option Payload
  | 'd' :: 'a' :: 't' :: 'a' :: '=' :: cs =>
    match (splitAtChar ':' cs).map readByte with
    | [some b0, some b1, some b2, some b3, some b4, some b5, some b6, some b7] =>
      some ⟨b0, b1, b2, b3, b4, b5, b6, b7⟩
    | _ => none
  | _ => none

/-- A written frame (R86). -/
def readFrame (line : List Char) : Option Frame :=
  match splitAtChar ' ' line with
  | [['F', 'R', 'A', 'M', 'E'], id, len, data] =>
    (readId id).bind fun i => (readLen len).bind fun l => (readData data).bind fun d => some ⟨i, l, d⟩
  | _ => none

/-- A written program: one frame a line, in the order they are offered (R86). -/
def readProgram (text : List Char) : Option (List Frame) := (splitAtChar '\n' text).mapM readFrame

/-- The digit of a number below 16. -/
def hexDigitChar (n : Nat) : Char := if n < 10 then Char.ofNat (48 + n) else Char.ofNat (55 + n)

/-- The lowest `n` hexadecimal digits of a number. -/
def writeHex : Nat → Nat → List Char
  | 0, _ => []
  | n + 1, w => writeHex n (w / 16) ++ [hexDigitChar (w % 16)]

/-- How many digits an identifier is written with: three, or as many as it needs. -/
def idDigits (w : Nat) : Nat :=
  if w < 16 ^ 3 then 3 else if w < 16 ^ 4 then 4 else if w < 16 ^ 5 then 5 else if w < 16 ^ 6 then 6
  else if w < 16 ^ 7 then 7 else 8

/-- A length in decimal. -/
def writeLen (len : Len) : List Char :=
  if len.toNat < 10 then [Char.ofNat (48 + len.toNat)] else ['1', Char.ofNat (38 + len.toNat)]

/-- A frame as R86 writes it; all eight bytes are listed, those at an index ≥ LEN too. -/
def writeFrame (f : Frame) : List Char :=
  ['F', 'R', 'A', 'M', 'E', ' ', '0', 'x'] ++ writeHex (idDigits f.id.toNat) f.id.toNat ++
    [' ', 'l', 'e', 'n', '='] ++ writeLen f.len ++ [' ', 'd', 'a', 't', 'a', '='] ++
    writeHex 2 f.data.b0.toNat ++ [':'] ++ writeHex 2 f.data.b1.toNat ++ [':'] ++
    writeHex 2 f.data.b2.toNat ++ [':'] ++ writeHex 2 f.data.b3.toNat ++ [':'] ++
    writeHex 2 f.data.b4.toNat ++ [':'] ++ writeHex 2 f.data.b5.toNat ++ [':'] ++
    writeHex 2 f.data.b6.toNat ++ [':'] ++ writeHex 2 f.data.b7.toNat

/-- The mnemonic of an instruction in this syntax: its record's kind name, or `DROP` or `REFUSE` (R86). -/
def Instr.mnemonic : Instr → String
  | .refuse _ _ _ => "REFUSE"
  | .fault _ _ => "FAULT"
  | .temps1 _ _ => "TEMPS_1"
  | .temps2 _ _ => "TEMPS_2"
  | .temps3 _ _ => "TEMPS_3"
  | .motorPosition _ _ => "MOTOR_POSITION"
  | .currents _ _ => "CURRENTS"
  | .voltages _ _ => "VOLTAGES"
  | .internalStates _ _ => "INTERNAL_STATES"
  | .torqueTimer _ _ => "TORQUE_TIMER"
  | .unhandled03 _ _ => "UNHANDLED"
  | .unhandled04 _ _ => "UNHANDLED"
  | .unhandled08_09 _ _ _ => "UNHANDLED"
  | .unhandled0D _ _ => "UNHANDLED"
  | .unhandled0E_0F _ _ _ => "UNHANDLED"
  | .unhandled10_1F _ _ _ => "UNHANDLED"
  | .unhandled20_2F _ _ _ => "UNHANDLED"
  | .drop _ _ _ => "DROP"

end Sys2Proof
end

