-- ==== Sys2Proof/Machine/State.lean ====
section
/-! DEFINITION. The output record (10_state.md R29), the state of the block and of its two channels
(R20, 60_exceptions.md R233), and the state after reset (R33). -/

namespace Sys2Proof.Machine

/-! ### The pieces of a record -/

/-- The unit tags (00_scope.md R12). -/
inductive UnitTag where
  | degc
  | v
  | a
  | nm
  | hz
  | rpm
  | w
  | khz
  | s
  | deg
  | raw
  deriving DecidableEq, Repr

/-- The divisors a `Signal` may carry: 1, 10 and 100 (R6, R11). -/
inductive Divisor where
  | unit
  | std
  | lv
  deriving DecidableEq, Repr

/-- A fixed-point quantity `{raw, div, unit}` (R11). -/
structure Signal where
  raw  : Int
  div  : Divisor
  unit : UnitTag
  deriving DecidableEq, Repr

/-- An elapsed time `{num, div, unit}` (R29, 41_field_extractor.md R111). -/
structure Elapsed where
  num  : Nat
  div  : Nat
  unit : UnitTag
  deriving DecidableEq, Repr

/-- `VsmLabel` (R30, 42_state_enumerators.md R131). -/
inductive VsmLabel where
  | START
  | PRECHARGE_INIT
  | PRECHARGE_ACTIVE
  | PRECHARGE_COMPLETE
  | WAIT
  | READY
  | MOTOR_RUNNING
  | BLINK_FAULT_CODE
  | SHUTDOWN_IN_PROCESS
  | RECYCLE_POWER
  | UNKNOWN
  deriving DecidableEq, Repr

/-- `InvLabel` (R30, R133). -/
inductive InvLabel where
  | POWER_ON
  | STOP
  | OPEN_LOOP
  | CLOSED_LOOP
  | WAIT
  | IDLE_RUN
  | IDLE_STOP
  | UNKNOWN
  deriving DecidableEq, Repr

/-- `FaultName`, the 32 entries of the catalog (R30, 43_fault_decoder.md R155). -/
inductive FaultName where
  | GATE_DESAT
  | OVER_CURRENT
  | ACCEL_SHORTED
  | ACCEL_OPEN
  | CURRENT_SENSOR_LOW
  | CURRENT_SENSOR_HIGH
  | MODULE_TEMP_LOW
  | MODULE_TEMP_HIGH
  | CTRL_PCB_TEMP_LOW
  | CTRL_PCB_TEMP_HIGH
  | GATE_DRIVE_PCB_TEMP_LOW
  | GATE_DRIVE_PCB_TEMP_HIGH
  | SENSE_5V_LOW
  | SENSE_5V_HIGH
  | SENSE_12V_LOW
  | SENSE_12V_HIGH
  | SENSE_2V5_LOW
  | SENSE_2V5_HIGH
  | SENSE_1V5_LOW
  | SENSE_1V5_HIGH
  | DC_BUS_HIGH
  | DC_BUS_LOW
  | PRECHARGE_TIMEOUT
  | PRECHARGE_VOLTAGE_FAILURE
  | EEPROM_CHECKSUM
  | EEPROM_RANGE
  | EEPROM_UPDATE
  | HW_DC_BUS_OVERVOLTAGE
  | GATE_DRIVER_INIT
  | RESERVED
  | BRAKE_SHORTED
  | BRAKE_OPEN
  deriving DecidableEq, Repr

/-! ### The record (R29) -/

/-- `RecordKind` (R29, 30_encoding.md R78). -/
inductive RecordKind where
  | FAULT
  | TEMPS_1
  | TEMPS_2
  | TEMPS_3
  | MOTOR_POSITION
  | CURRENTS
  | VOLTAGES
  | INTERNAL_STATES
  | TORQUE_TIMER
  | UNHANDLED
  deriving DecidableEq, Repr

structure Temps1Body where
  moduleA    : Signal
  moduleB    : Signal
  moduleC    : Signal
  gateDriver : Signal
  deriving DecidableEq, Repr

structure Temps2Body where
  controlBoard : Signal
  rtd1         : Signal
  rtd2         : Signal
  rtd3         : Signal
  deriving DecidableEq, Repr

structure Temps3Body where
  coolant       : Signal
  hotspot       : Signal
  motor         : Signal
  torqueShudder : Signal
  deriving DecidableEq, Repr

structure MotorPositionBody where
  angle           : Signal
  angularVelocity : Signal
  frequency       : Signal
  deltaResolver   : Signal
  deriving DecidableEq, Repr

structure CurrentsBody where
  phaseA : Signal
  phaseB : Signal
  phaseC : Signal
  dcBus  : Signal
  deriving DecidableEq, Repr

structure VoltagesBody where
  dcBus  : Signal
  output : Signal
  vabVd  : Signal
  vbcVq  : Signal
  deriving DecidableEq, Repr

structure InternalStatesBody where
  vsmCode    : BitVec 8
  vsmLabel   : VsmLabel
  pwmFreqKhz : BitVec 8
  invCode    : BitVec 8
  invLabel   : InvLabel
  relayState : BitVec 8
  deriving DecidableEq, Repr

structure TorqueTimerBody where
  torqueCmd      : Signal
  torqueFeedback : Signal
  ticks          : BitVec 32
  elapsed        : Elapsed
  deriving DecidableEq, Repr

structure FaultBody where
  postLo   : FaultWord
  postHi   : FaultWord
  runLo    : FaultWord
  runHi    : FaultWord
  postVec  : FaultVec
  runVec   : FaultVec
  postList : List FaultName
  runList  : List FaultName
  deriving DecidableEq, Repr

structure UnhandledBody where
  typeCode : MsgType
  deriving DecidableEq, Repr

/-- `Body(kind)` (R29). -/
inductive Body where
  | fault (b : FaultBody)
  | temps1 (b : Temps1Body)
  | temps2 (b : Temps2Body)
  | temps3 (b : Temps3Body)
  | motorPosition (b : MotorPositionBody)
  | currents (b : CurrentsBody)
  | voltages (b : VoltagesBody)
  | internalStates (b : InternalStatesBody)
  | torqueTimer (b : TorqueTimerBody)
  | unhandled (b : UnhandledBody)
  deriving DecidableEq, Repr

/-- The output record (R29). Its `kind` field is the constructor of its body and is read by `Record.kind`
(Machine/Flags.lean), so that a record whose kind and body disagree cannot be written. -/
structure Record where
  short : Bool
  body  : Body
  deriving DecidableEq, Repr

/-! ### The result of a decode (00_scope.md R15, 44_router_dispatch.md R180) -/

/-- Why a frame is refused (R180, R224). -/
inductive RefuseReason where
  /-- `LEN_RANGE`: LEN in 9..15. -/
  | lenRange
  deriving DecidableEq, Repr

/-- `Outcome` of R15. -/
inductive DecodeResult where
  | record (r : Record)
  | dropped
  | refused (why : RefuseReason)
  deriving DecidableEq, Repr

/-! ### The host (60_exceptions.md R233; log 4, log 5) -/

/-- Whether the reporting collaborator takes a record. `once` is the readiness of one TAKE, which one DELIVER
uses up; `always` is a sink that is always ready; `hold` is one that is not ready (spec/95_test_vectors.md,
Notation). -/
inductive Sink where
  | hold
  | once
  | always
  deriving DecidableEq, Repr

/-- What the host can do to the block (R233). -/
inductive HostMove where
  /-- The transport collaborator offers a frame. -/
  | offer (f : Frame)
  /-- The reporting collaborator's readiness changes. -/
  | sink (m : Sink)
  /-- Reset is asserted and released (R250). -/
  | reset
  deriving DecidableEq, Repr

/-- Who moves next (log 4). -/
inductive Turn where
  | host (m : HostMove)
  | block
  deriving DecidableEq, Repr

/-! ### The state -/

/-- The machine. `latch`, `pend` and `refusalMark` are the block's state (R20); the hardwired constants and the
read-only tables are `Config` and Machine/Tables.lean (log 8). `offered`, `sink`, `delivered` and `turns` are the
two channels and the host (log 4, log 5); `accepted` is the record of a run (log 18); `freeDraw` counts the draws of the unspecified latch (log 3). -/
structure State where
  /-- The frame latch (R21). -/
  latch       : Frame
  /-- `PEND` (R26). -/
  pend        : Option Record
  /-- The sticky refusal mark (R224). -/
  refusalMark : Bool
  /-- The frame on the inbound channel (R27, R233). -/
  offered     : Option Frame
  /-- The readiness of the outbound channel (R27, R233). -/
  sink        : Sink
  /-- The records handed over, oldest first (R256). Nothing reads it. -/
  delivered   : List Record
  /-- The frames accepted, oldest first (R256, and R23's numbering of them; log 18). Nothing reads it. -/
  accepted    : List Frame
  /-- The moves still to come; when none is left the block moves. -/
  turns       : List Turn
  /-- The model's own counter of free values. -/
  freeDraw    : Nat
  deriving DecidableEq, Repr

/-- The block stops with a fault: never. The spec raises no exception, takes no trap and signals no error
(R220), so no step raises a fault and the type has no constructor. -/
inductive Fault where
  deriving DecidableEq, Repr

/-- Reasons an instruction has no meaning. -/
inductive Refusal where
  /-- An opcode row without a meaning, by its mnemonic. No arm of `exec` raises it (safe: it would only stop). -/
  | notModelled (mnemonic : String)
  deriving DecidableEq, Repr

/-- All payload bytes zero: the latch's bytes in `State.reset` (log 2). -/
def zeroPayload : Payload :=
  { b0 := 0#8, b1 := 0#8, b2 := 0#8, b3 := 0#8, b4 := 0#8, b5 := 0#8, b6 := 0#8, b7 := 0#8 }

/-- The state after reset (R33, R251): PEND none, the mark clear. DESIGN CHOICE (log 2): the unspecified latch is
zero. DESIGN CHOICE (log 5): the host offers nothing, takes nothing, has taken nothing and has no move planned. -/
def State.reset : State :=
  { latch := { id := 0#Config.idWidth, len := 0#Config.lenWidth, data := zeroPayload }
    pend := none
    refusalMark := false
    offered := none
    sink := .hold
    delivered := []
    accepted := []
    turns := []
    freeDraw := 0 }

end Sys2Proof.Machine
end

