-- ==== Sys2Proof/Machine/Tables.lean ====
section
/-! DEFINITION. The three read-only tables (10_state.md R28). -/

namespace Sys2Proof.Machine

/-- `VSM_TABLE` (42_state_enumerators.md R131): 256 entries, `UNKNOWN` for every code not listed. -/
def vsmTable (code : BitVec 8) : VsmLabel :=
  match code.toNat with
  | 0 => .START
  | 1 => .PRECHARGE_INIT
  | 2 => .PRECHARGE_ACTIVE
  | 3 => .PRECHARGE_COMPLETE
  | 4 => .WAIT
  | 5 => .READY
  | 6 => .MOTOR_RUNNING
  | 7 => .BLINK_FAULT_CODE
  | 14 => .SHUTDOWN_IN_PROCESS
  | 15 => .RECYCLE_POWER
  | _ => .UNKNOWN

/-- `INV_TABLE` (R133): 256 entries, `UNKNOWN` for every code not listed. -/
def invTable (code : BitVec 8) : InvLabel :=
  match code.toNat with
  | 0 => .POWER_ON
  | 1 => .STOP
  | 2 => .OPEN_LOOP
  | 3 => .CLOSED_LOOP
  | 4 => .WAIT
  | 8 => .IDLE_RUN
  | 9 => .IDLE_STOP
  | _ => .UNKNOWN

/-- `CATALOG` (43_fault_decoder.md R155), index 0 first; index 16 is `SENSE_2V5_LOW` (90_conflicts.md C1). -/
def catalog : List FaultName :=
  [ .GATE_DESAT, .OVER_CURRENT, .ACCEL_SHORTED, .ACCEL_OPEN,
    .CURRENT_SENSOR_LOW, .CURRENT_SENSOR_HIGH, .MODULE_TEMP_LOW, .MODULE_TEMP_HIGH ] ++
  [ .CTRL_PCB_TEMP_LOW, .CTRL_PCB_TEMP_HIGH, .GATE_DRIVE_PCB_TEMP_LOW, .GATE_DRIVE_PCB_TEMP_HIGH,
    .SENSE_5V_LOW, .SENSE_5V_HIGH, .SENSE_12V_LOW, .SENSE_12V_HIGH ] ++
  [ .SENSE_2V5_LOW, .SENSE_2V5_HIGH, .SENSE_1V5_LOW, .SENSE_1V5_HIGH,
    .DC_BUS_HIGH, .DC_BUS_LOW, .PRECHARGE_TIMEOUT, .PRECHARGE_VOLTAGE_FAILURE ] ++
  [ .EEPROM_CHECKSUM, .EEPROM_RANGE, .EEPROM_UPDATE, .HW_DC_BUS_OVERVOLTAGE,
    .GATE_DRIVER_INIT, .RESERVED, .BRAKE_SHORTED, .BRAKE_OPEN ]

end Sys2Proof.Machine
end

