-- ==== Sys2Proof/Machine/Operands.lean ====
section
/-! DEFINITION. The payload view, `MemRead` and every decoder (20_memory.md R52, 41_field_extractor.md R100 to R115),
the state labels (42_state_enumerators.md) and the fault-word operations (43_fault_decoder.md). The decoders read the
frame latch; an offset is an `Offset` that keeps the access inside the payload (R114), so an out-of-bounds application
is no term. -/

namespace Sys2Proof.Machine

/-! ### Reading the payload -/

/-- `DATA[k]` (10_state.md R21). -/
def dataByte (d : Payload) (k : Offset 1) : Byte :=
  match k with
  | 0 => d.b0
  | 1 => d.b1
  | 2 => d.b2
  | 3 => d.b3
  | 4 => d.b4
  | 5 => d.b5
  | 6 => d.b6
  | 7 => d.b7

/-- `P[k]` under a given policy (R101), for the frame numbered `draw`: below LEN the latched byte; at or above LEN
0x00 under `ZERO_PAD` and a free value, one per frame and byte, under `RAW_BUFFER` (log 17). -/
def payloadViewUnder (policy : Config.ShortFramePolicy) (draw : Nat) (f : Frame) (k : Offset 1) : Byte :=
  if f.len.toNat ≤ k.val then
    match policy with
    | .zeroPad => 0#8
    | .rawBuffer => Config.rawBufferByte draw k.val
  else dataByte f.data k

/-- `P[k]`, the payload view every decoder sees (R101), under the hardwired policy, which draws nothing: the frame's
number is not read. -/
def payloadView (f : Frame) (k : Offset 1) : Byte := payloadViewUnder Config.shortFramePolicy 0 f k

/-- The unsigned little-endian value of `P[k] .. P[k+n-1]`, the sum of `P[k+j] * 256^j` over j < n
(00_scope.md R9, R51). -/
def leValue (f : Frame) (k : Nat) : (n : Nat) → k + n ≤ Config.payloadBytes → Nat
  | 0, _ => 0
  | n + 1, h =>
    leValue f k n (Nat.le_of_succ_le h) + (payloadView f ⟨k + n, h⟩).toNat * 256 ^ n

/-- `MemRead(k, n)` (R52): defined for n in 1, 2, 4 and k + n ≤ 8; any other request is refused (`none`). -/
def memRead (f : Frame) (k n : Nat) : Option Nat :=
  if h : (n = 1 ∨ n = 2 ∨ n = 4) ∧ k + n ≤ Config.payloadBytes then some (leValue f k n h.2) else none

/-- `sext_16(v)`: `v - 65536` if `v[15] = 1`, otherwise `v` (R9). -/
def sext16 (v : BitVec 16) : Int :=
  if v.getLsbD 15 then (v.toNat : Int) - 65536 else (v.toNat : Int)

/-! ### Raw extractors -/

/-- `EXT_U8(k)` (R104). -/
def extU8 (f : Frame) (k : Offset 1) : BitVec 8 :=
  BitVec.ofNat 8 (leValue f k.val 1 (Offset.fits k (by decide)))

/-- `EXT_U16(k)` (R105). -/
def extU16 (f : Frame) (k : Offset 2) : BitVec 16 :=
  BitVec.ofNat 16 (leValue f k.val 2 (Offset.fits k (by decide)))

/-- `EXT_S16(k)` (R106). -/
def extS16 (f : Frame) (k : Offset 2) : Int := sext16 (extU16 f k)

/-- `EXT_U32(k)` (R107). -/
def extU32 (f : Frame) (k : Offset 4) : BitVec 32 :=
  BitVec.ofNat 32 (leValue f k.val 4 (Offset.fits k (by decide)))

/-! ### Scaled decoders -/

/-- The number a divisor stands for (00_scope.md R6). -/
def Divisor.toNat : Divisor → Nat
  | .unit => Config.divUnit
  | .std => Config.divStd
  | .lv => Config.divLv

/-- `DEC_SIGNED_SCALED(k, d, unit)` (R108). -/
def decSignedScaled (f : Frame) (k : Offset 2) (d : Divisor) (unit : UnitTag) : Signal :=
  { raw := extS16 f k, div := d, unit := unit }

/-- `DEC_ANGULAR_VELOCITY(k)` (R109). -/
def decAngularVelocity (f : Frame) (k : Offset 2) : Signal :=
  { raw := extS16 f k, div := .unit, unit := .rpm }

/-- `DEC_BOOLEAN(k)` (R110); no frame reaches it (R115). -/
def decBoolean (f : Frame) (k : Offset 1) : Bool := decide (0 < (extU8 f k).toNat)

/-- The low-voltage use of the scaled decoder (R108, R115); no frame reaches it. -/
def decLowVoltage (f : Frame) (k : Offset 2) : Signal := decSignedScaled f k .lv .v

/-- The power use of the scaled decoder (R108, R115); no frame reaches it. -/
def decPower (f : Frame) (k : Offset 2) : Signal := decSignedScaled f k .std .w

/-- `TICKS_TO_SECONDS(t)` (R111). -/
def ticksToSeconds (t : BitVec 32) : Elapsed :=
  { num := Config.tickNum * t.toNat, div := Config.tickDen, unit := .s }

/-- The exact value of a signal, `raw / div` in the rationals (R11, R103). -/
def Signal.value (x : Signal) : Rat := (x.raw : Rat) / (x.div.toNat : Rat)

/-- The exact value of an elapsed time, `num / div` (R111). -/
def Elapsed.value (x : Elapsed) : Rat := (x.num : Rat) / (x.div : Rat)

/-- What a sink shows of a signal: a conversion under the open parameter (R113). No record depends on it. -/
def Signal.rendered (x : Signal) : List (BitVec 8) := Config.renderFloat x.raw x.div.toNat

/-- What a sink shows of an elapsed time (R113). -/
def Elapsed.rendered (x : Elapsed) : List (BitVec 8) := Config.renderFloat x.num x.div

/-! ### State labels -/

/-- `VSM_LABEL(c)` (R132). -/
def vsmLabel (c : BitVec 8) : VsmLabel := vsmTable c

/-- `INV_LABEL(c)` (R134). -/
def invLabel (c : BitVec 8) : InvLabel := invTable c

/-! ### Fault words -/

/-- One bit test of the source's loop: the mask `1 << i` against a 16-bit word (R153). -/
def maskTest (word : FaultWord) (i : Nat) : Bool := decide (word &&& (1#Config.faultWordWidth <<< i) ≠ 0#Config.faultWordWidth)

/-- `vec[i]` of FAULT_TEST: for i < 16 the mask `1 << i` against lo, otherwise `1 << (i-16)` against hi (R153). -/
def faultBit (lo hi : FaultWord) (i : Nat) : Bool :=
  if i < Config.faultWordWidth then maskTest lo i else maskTest hi (i - Config.faultWordWidth)

/-- The first `n` rounds of the loop of R153. -/
def faultScan (lo hi : FaultWord) : Nat → FaultVec
  | 0 => 0#Config.catalogSize
  | n + 1 => if faultBit lo hi n then faultScan lo hi n ||| (1#Config.catalogSize <<< n) else faultScan lo hi n

/-- `FAULT_TEST(lo, hi)` (R153): the loop over i in 0..31. -/
def faultTest (lo hi : FaultWord) : FaultVec := faultScan lo hi Config.catalogSize

/-- `FAULT_NAMES(vec)` (R156): `CATALOG[i]` for every i with `vec[i] = 1`, ascending. -/
def faultNames (vec : FaultVec) : List FaultName :=
  (List.range Config.catalogSize).filterMap fun i => if vec.getLsbD i then catalog[i]? else none

end Sys2Proof.Machine
end

