-- ==== Sys2Proof/Machine/Flags.lean ====
section
/-! DEFINITION. The record's kind and its code (30_encoding.md R78), the length warning `short`
(41_field_extractor.md R102) and the outcome codes (60_exceptions.md R221). -/

namespace Sys2Proof.Machine

/-- The kind of a body (10_state.md R29). -/
def Body.kind : Body → RecordKind
  | .fault _ => .FAULT
  | .temps1 _ => .TEMPS_1
  | .temps2 _ => .TEMPS_2
  | .temps3 _ => .TEMPS_3
  | .motorPosition _ => .MOTOR_POSITION
  | .currents _ => .CURRENTS
  | .voltages _ => .VOLTAGES
  | .internalStates _ => .INTERNAL_STATES
  | .torqueTimer _ => .TORQUE_TIMER
  | .unhandled _ => .UNHANDLED

/-- The `kind` field of a record (R29). -/
def Record.kind (r : Record) : RecordKind := r.body.kind

/-- The 4-bit kind code (R78). -/
def RecordKind.code : RecordKind → BitVec 4
  | .FAULT => 0x0#4
  | .TEMPS_1 => 0x1#4
  | .TEMPS_2 => 0x2#4
  | .TEMPS_3 => 0x3#4
  | .MOTOR_POSITION => 0x4#4
  | .CURRENTS => 0x5#4
  | .VOLTAGES => 0x6#4
  | .INTERNAL_STATES => 0x7#4
  | .TORQUE_TIMER => 0x8#4
  | .UNHANDLED => 0x9#4

/-- The kind a code names; 0xA..0xF are reserved and refused (R78, 93_implementation_defined.md). -/
def RecordKind.ofCode (c : BitVec 4) : Option RecordKind :=
  match c.toNat with
  | 0x0 => some .FAULT
  | 0x1 => some .TEMPS_1
  | 0x2 => some .TEMPS_2
  | 0x3 => some .TEMPS_3
  | 0x4 => some .MOTOR_POSITION
  | 0x5 => some .CURRENTS
  | 0x6 => some .VOLTAGES
  | 0x7 => some .INTERNAL_STATES
  | 0x8 => some .TORQUE_TIMER
  | 0x9 => some .UNHANDLED
  | _ => none

/-- `REQ(kind)`, the number of payload bytes the kind's schema reads (R102). -/
def req : RecordKind → Nat
  | .FAULT => 8
  | .TEMPS_1 => 8
  | .TEMPS_2 => 8
  | .TEMPS_3 => 8
  | .MOTOR_POSITION => 8
  | .CURRENTS => 8
  | .VOLTAGES => 8
  | .INTERNAL_STATES => 4
  | .TORQUE_TIMER => 8
  | .UNHANDLED => 0

/-- `short = LEN < REQ(kind)` (R102). -/
def shortFlag (kind : RecordKind) (len : Len) : Bool := decide (len.toNat < req kind)

/-- The unit tag of the PWM frequency byte (00_scope.md R12, decision D16). -/
def pwmFreqUnit : UnitTag := .khz

/-- The unit tag of the untagged raw bytes of an INTERNAL_STATES record (R12, decision D16). -/
def rawByteUnit : UnitTag := .raw

/-- The outcome codes (R221). -/
inductive OutcomeCode where
  | OK
  | SHORT
  | UNHANDLED_TYPE
  | UNKNOWN_STATE
  | DROPPED
  | REFUSED_LEN
  deriving DecidableEq, Repr

/-- A record carries an `UNKNOWN` label (R221). -/
def Body.hasUnknown : Body → Bool
  | .internalStates b => b.vsmLabel == .UNKNOWN || b.invLabel == .UNKNOWN
  | .fault _ => false
  | .temps1 _ => false
  | .temps2 _ => false
  | .temps3 _ => false
  | .motorPosition _ => false
  | .currents _ => false
  | .voltages _ => false
  | .torqueTimer _ => false
  | .unhandled _ => false

/-- Whether an outcome code describes a decode's result: one row of the table of R221 each. -/
def OutcomeCode.describes (c : OutcomeCode) (res : DecodeResult) : Bool :=
  match c, res with
  | .OK, .record r => !r.short
  | .SHORT, .record r => r.short
  | .UNHANDLED_TYPE, .record r => r.kind == .UNHANDLED
  | .UNKNOWN_STATE, .record r => r.body.hasUnknown
  | .DROPPED, .dropped => true
  | .REFUSED_LEN, .refused .lenRange => true
  | _, _ => false

end Sys2Proof.Machine
end

