-- ==== Sys2Proof/Machine/Ops.lean ====
section
/-! DEFINITION. The named operations on the state: ACCEPT and DELIVER (10_state.md R27), the refusal mark
(60_exceptions.md R224), reset (70_reset_and_hazards.md R250) and the host's moves (R233). The spec has no exception to
take and none to return from (R220, R225, R226). -/

namespace Sys2Proof.Machine

/-- `latch <- f` and the frame leaves the channel (R21, R27): all three fields in one step. The frame counts as
accepted (70_reset_and_hazards.md R256, log 18). -/
def latchFrame (f : Frame) (s : State) : State :=
  { s with latch := f, offered := none, accepted := s.accepted ++ [f] }

/-- `emit(rec)`: the record enters PEND (00_scope.md R9, R26). -/
def emit (r : Record) (s : State) : State := { s with pend := some r }

/-- The sticky mark is set; PEND is unchanged (R224). -/
def markRefusal (s : State) : State := { s with refusalMark := true }

/-- The record of a body decoded from the latched frame, with its length warning (R180, R102). -/
def mkRecord (f : Frame) (b : Body) : Record := { short := shortFlag b.kind f.len, body := b }

/-- What a decode's result does to the state (R27). -/
def applyResult (res : DecodeResult) (s : State) : State :=
  match res with
  | .record r => emit r s
  | .dropped => s
  | .refused .lenRange => markRefusal s

/-- ACCEPT(f) with the decode of f's row, applied to the latched frame (R27). ACCEPT is enabled only while PEND is
none; while PEND is full nothing changes and the offer is held (spec/95_test_vectors.md O-7, log 9). -/
def accept (f : Frame) (dec : Frame → DecodeResult) (s : State) : Host.Outcome State Fault Refusal :=
  match s.pend with
  | some _ => .next s
  | none =>
    let s1 := latchFrame f s
    .next (applyResult (dec s1.latch) s1)

/-- The decode of a row that yields a record: its body, read from the latched frame. -/
def recordOf (body : Frame → Body) (f : Frame) : DecodeResult := .record (mkRecord f (body f))

/-- One TAKE's readiness is used up by one DELIVER; an always ready sink stays ready (log 5). -/
def Sink.afterDeliver : Sink → Sink
  | .hold => .hold
  | .once => .hold
  | .always => .always

/-- `output r; PEND <- none` (R27): the whole record is handed over, after those delivered before it. -/
def deliver (r : Record) (s : State) : State :=
  { s with pend := none, delivered := s.delivered ++ [r], sink := s.sink.afterDeliver }

/-- The unspecified contents of the latch, draw n (R33, R250, log 3). -/
def freeLatch (n : Nat) : Frame :=
  { id := Config.freeLatchId n, len := Config.freeLatchLen n, data := Payload.ofData64 (Config.freeLatchData n) }

/-- Reset asserted and released (R250, log 6): PEND none, the mark clear, the latch unspecified, the offered frame
not accepted. Records already delivered are the host's, and the frames accepted stay counted (log 18). -/
def resetBlock (s : State) : State :=
  { s with
    pend := none
    refusalMark := false
    latch := freeLatch s.freeDraw
    offered := none
    freeDraw := s.freeDraw + 1 }

/-- A host move the host may make now: an offered frame is held unchanged until it is accepted (R253), so no second
frame is offered meanwhile (log 7). -/
def hostMayMove (m : HostMove) (s : State) : Bool :=
  match m with
  | .offer _ => s.offered.isNone
  | .sink _ => true
  | .reset => true

/-- The effect of a host move (R233). -/
def hostMove (m : HostMove) (s : State) : State :=
  match m with
  | .offer f => { s with offered := some f }
  | .sink k => { s with sink := k }
  | .reset => resetBlock s

/-- DELIVER, enabled when the sink takes a record (R27); a sink that holds leaves the block stuck (R257, log 9). -/
def tryDeliver (r : Record) (s : State) : State :=
  match s.sink with
  | .hold => s
  | .once => deliver r s
  | .always => deliver r s

/-- A stream of host moves as spec/95_test_vectors.md reads one: after each move the block takes what is enabled at
once, which is at most one DELIVER and one ACCEPT. -/
def scheduleOf (moves : List HostMove) : List Turn :=
  moves.flatMap fun m => [.host m, .block, .block]

end Sys2Proof.Machine
end

