-- ==== Sys2Proof/Machine/FaultWords.lean ====
section
/-! DEFINITION. The operation of payload format FW (30_encoding.md R77). -/

namespace Sys2Proof.Machine

/-- The body of `FAULT` (44_router_dispatch.md R187): the split of R151, the two bit tests of R153 and the names of
R156, one catalog for both pairs (R157). -/
def faultBody (f : Frame) : Body :=
  let postVec := faultTest (extU16 f 0) (extU16 f 2)
  let runVec := faultTest (extU16 f 4) (extU16 f 6)
  .fault
    { postLo := extU16 f 0
      postHi := extU16 f 2
      runLo := extU16 f 4
      runHi := extU16 f 6
      postVec := postVec
      runVec := runVec
      postList := faultNames postVec
      runList := faultNames runVec }

/-- `FAULT` (R187). -/
def execFault (len : Len) (data : Payload) (s : State) : Host.Outcome State Fault Refusal :=
  accept { id := Config.faultId, len := len, data := data } (recordOf faultBody) s

end Sys2Proof.Machine
end

