-- ==== Sys2Proof/Machine/InternalStates.lean ====
section
/-! DEFINITION. The operation of payload format ST (30_encoding.md R75). -/

namespace Sys2Proof.Machine

/-- The body of `INTERNAL_STATES` (44_router_dispatch.md R194); bytes 4..7 are not read. -/
def internalStatesBody (f : Frame) : Body :=
  .internalStates
    { vsmCode := extU8 f 0
      vsmLabel := vsmLabel (extU8 f 0)
      pwmFreqKhz := extU8 f 1
      invCode := extU8 f 2
      invLabel := invLabel (extU8 f 2)
      relayState := extU8 f 3 }

/-- `INTERNAL_STATES` (R194). -/
def execInternalStates (len : Len) (data : Payload) (s : State) : Host.Outcome State Fault Refusal :=
  accept (typeFrame 0x0A#6 len data) (recordOf internalStatesBody) s

end Sys2Proof.Machine
end

