-- ==== Sys2Proof/Machine/Outside.lean ====
section
/-! DEFINITION. The two rows that yield no record: REFUSE (60_exceptions.md R224) and DROP (44_router_dispatch.md
R186). -/

namespace Sys2Proof.Machine

/-- `REFUSE` (R224): the sticky refusal mark is set and no record is produced. -/
def execRefuse (id : CanId) (len : Len) (data : Payload) (s : State) : Host.Outcome State Fault Refusal :=
  accept { id := id, len := len, data := data } (fun _ => .refused .lenRange) s

/-- `DROP` (R186): the frame is consumed, no record, no warning, no mark. -/
def execDrop (id : CanId) (len : Len) (data : Payload) (s : State) : Host.Outcome State Fault Refusal :=
  accept { id := id, len := len, data := data } (fun _ => .dropped) s

end Sys2Proof.Machine
end

