-- ==== Sys2Proof/Machine/QuadSigned.lean ====
section
/-! DEFINITION. The six operations of payload format Q16 (30_encoding.md R74). -/

namespace Sys2Proof.Machine

/-- The body of `TEMPS_1` (44_router_dispatch.md R188). -/
def temps1Body (f : Frame) : Body :=
  .temps1
    { moduleA := decSignedScaled f 0 .std .degc
      moduleB := decSignedScaled f 2 .std .degc
      moduleC := decSignedScaled f 4 .std .degc
      gateDriver := decSignedScaled f 6 .std .degc }

/-- The body of `TEMPS_2` (R189). -/
def temps2Body (f : Frame) : Body :=
  .temps2
    { controlBoard := decSignedScaled f 0 .std .degc
      rtd1 := decSignedScaled f 2 .std .degc
      rtd2 := decSignedScaled f 4 .std .degc
      rtd3 := decSignedScaled f 6 .std .degc }

/-- The body of `TEMPS_3` (R190): the last slot is a torque. -/
def temps3Body (f : Frame) : Body :=
  .temps3
    { coolant := decSignedScaled f 0 .std .degc
      hotspot := decSignedScaled f 2 .std .degc
      motor := decSignedScaled f 4 .std .degc
      torqueShudder := decSignedScaled f 6 .std .nm }

/-- The body of `MOTOR_POSITION` (R191): the angle is divided by 10, the angular velocity is not scaled. -/
def motorPositionBody (f : Frame) : Body :=
  .motorPosition
    { angle := decSignedScaled f 0 .std .deg
      angularVelocity := decAngularVelocity f 2
      frequency := decSignedScaled f 4 .std .hz
      deltaResolver := decSignedScaled f 6 .std .deg }

/-- The body of `CURRENTS` (R192). -/
def currentsBody (f : Frame) : Body :=
  .currents
    { phaseA := decSignedScaled f 0 .std .a
      phaseB := decSignedScaled f 2 .std .a
      phaseC := decSignedScaled f 4 .std .a
      dcBus := decSignedScaled f 6 .std .a }

/-- The body of `VOLTAGES` (R193): every slot is the high-voltage decode. -/
def voltagesBody (f : Frame) : Body :=
  .voltages
    { dcBus := decSignedScaled f 0 .std .v
      output := decSignedScaled f 2 .std .v
      vabVd := decSignedScaled f 4 .std .v
      vbcVq := decSignedScaled f 6 .std .v }

/-- `TEMPS_1` (R188). -/
def execTemps1 (len : Len) (data : Payload) (s : State) : Host.Outcome State Fault Refusal :=
  accept (typeFrame 0x00#6 len data) (recordOf temps1Body) s

/-- `TEMPS_2` (R189). -/
def execTemps2 (len : Len) (data : Payload) (s : State) : Host.Outcome State Fault Refusal :=
  accept (typeFrame 0x01#6 len data) (recordOf temps2Body) s

/-- `TEMPS_3` (R190). -/
def execTemps3 (len : Len) (data : Payload) (s : State) : Host.Outcome State Fault Refusal :=
  accept (typeFrame 0x02#6 len data) (recordOf temps3Body) s

/-- `MOTOR_POSITION` (R191). -/
def execMotorPosition (len : Len) (data : Payload) (s : State) : Host.Outcome State Fault Refusal :=
  accept (typeFrame 0x05#6 len data) (recordOf motorPositionBody) s

/-- `CURRENTS` (R192). -/
def execCurrents (len : Len) (data : Payload) (s : State) : Host.Outcome State Fault Refusal :=
  accept (typeFrame 0x06#6 len data) (recordOf currentsBody) s

/-- `VOLTAGES` (R193). -/
def execVoltages (len : Len) (data : Payload) (s : State) : Host.Outcome State Fault Refusal :=
  accept (typeFrame 0x07#6 len data) (recordOf voltagesBody) s

end Sys2Proof.Machine
end

