-- ==== Sys2Proof/Machine/TorqueTimer.lean ====
section
/-! DEFINITION. The operation of payload format TT (30_encoding.md R76). -/

namespace Sys2Proof.Machine

/-- The body of `TORQUE_TIMER` (44_router_dispatch.md R195). -/
def torqueTimerBody (f : Frame) : Body :=
  .torqueTimer
    { torqueCmd := decSignedScaled f 0 .std .nm
      torqueFeedback := decSignedScaled f 2 .std .nm
      ticks := extU32 f 4
      elapsed := ticksToSeconds (extU32 f 4) }

/-- `TORQUE_TIMER` (R195). -/
def execTorqueTimer (len : Len) (data : Payload) (s : State) : Host.Outcome State Fault Refusal :=
  accept (typeFrame 0x0C#6 len data) (recordOf torqueTimerBody) s

end Sys2Proof.Machine
end

