-- ==== Sys2Proof/Machine/Unhandled.lean ====
section
/-! DEFINITION. The in-range message types without a schema (44_router_dispatch.md R196), one operation per opcode
row. No payload byte is read. -/

namespace Sys2Proof.Machine

/-- The body of `UNHANDLED` (R196). -/
def unhandledBody (t : MsgType) (_f : Frame) : Body := .unhandled { typeCode := t }

/-- Row UNHANDLED_03 (R196). -/
def execUnhandled03 (len : Len) (data : Payload) (s : State) : Host.Outcome State Fault Refusal :=
  accept (typeFrame 0x03#6 len data) (recordOf (unhandledBody 0x03#6)) s

/-- Row UNHANDLED_04 (R196). -/
def execUnhandled04 (len : Len) (data : Payload) (s : State) : Host.Outcome State Fault Refusal :=
  accept (typeFrame 0x04#6 len data) (recordOf (unhandledBody 0x04#6)) s

/-- Row UNHANDLED_08_09 (R196). -/
def execUnhandled08_09 (low : BitVec 1) (len : Len) (data : Payload) (s : State) :
    Host.Outcome State Fault Refusal :=
  accept (typeFrame (0x08#6 + low.setWidth 6) len data) (recordOf (unhandledBody (0x08#6 + low.setWidth 6))) s

/-- Row UNHANDLED_0D (R196). -/
def execUnhandled0D (len : Len) (data : Payload) (s : State) : Host.Outcome State Fault Refusal :=
  accept (typeFrame 0x0D#6 len data) (recordOf (unhandledBody 0x0D#6)) s

/-- Row UNHANDLED_0E_0F (R196). -/
def execUnhandled0E_0F (low : BitVec 1) (len : Len) (data : Payload) (s : State) :
    Host.Outcome State Fault Refusal :=
  accept (typeFrame (0x0E#6 + low.setWidth 6) len data) (recordOf (unhandledBody (0x0E#6 + low.setWidth 6))) s

/-- Row UNHANDLED_10_1F (R196). -/
def execUnhandled10_1F (low : BitVec 4) (len : Len) (data : Payload) (s : State) :
    Host.Outcome State Fault Refusal :=
  accept (typeFrame (0x10#6 + low.setWidth 6) len data) (recordOf (unhandledBody (0x10#6 + low.setWidth 6))) s

/-- Row UNHANDLED_20_2F (R196). -/
def execUnhandled20_2F (low : BitVec 4) (len : Len) (data : Payload) (s : State) :
    Host.Outcome State Fault Refusal :=
  accept (typeFrame (0x20#6 + low.setWidth 6) len data) (recordOf (unhandledBody (0x20#6 + low.setWidth 6))) s

end Sys2Proof.Machine
end

