-- ==== Sys2Proof/Machine/Dispatch.lean ====
section
/-! DEFINITION. From an instruction to its meaning: one arm per opcode row. -/

namespace Sys2Proof.Machine

/-- ACCEPT of the frame an instruction stands for (10_state.md R27). -/
def exec (i : Instr) (s : State) : Host.Outcome State Fault Refusal :=
  match i with
  | .refuse id len data => Sys2Proof.Machine.execRefuse id len data s
  | .fault len data => Sys2Proof.Machine.execFault len data s
  | .temps1 len data => Sys2Proof.Machine.execTemps1 len data s
  | .temps2 len data => Sys2Proof.Machine.execTemps2 len data s
  | .temps3 len data => Sys2Proof.Machine.execTemps3 len data s
  | .motorPosition len data => Sys2Proof.Machine.execMotorPosition len data s
  | .currents len data => Sys2Proof.Machine.execCurrents len data s
  | .voltages len data => Sys2Proof.Machine.execVoltages len data s
  | .internalStates len data => Sys2Proof.Machine.execInternalStates len data s
  | .torqueTimer len data => Sys2Proof.Machine.execTorqueTimer len data s
  | .unhandled03 len data => Sys2Proof.Machine.execUnhandled03 len data s
  | .unhandled04 len data => Sys2Proof.Machine.execUnhandled04 len data s
  | .unhandled08_09 low len data => Sys2Proof.Machine.execUnhandled08_09 low len data s
  | .unhandled0D len data => Sys2Proof.Machine.execUnhandled0D len data s
  | .unhandled0E_0F low len data => Sys2Proof.Machine.execUnhandled0E_0F low len data s
  | .unhandled10_1F low len data => Sys2Proof.Machine.execUnhandled10_1F low len data s
  | .unhandled20_2F low len data => Sys2Proof.Machine.execUnhandled20_2F low len data s
  | .drop id len data => Sys2Proof.Machine.execDrop id len data s

end Sys2Proof.Machine
end

