-- ==== Sys2Proof/Machine/Step.lean ====
section
/-! DEFINITION. One step of the machine: the next move of the schedule (log 4). -/

namespace Sys2Proof.Machine

/-- The block's move (10_state.md R27): DELIVER while PEND holds a record, ACCEPT of the offered frame while it does
not. Where neither is enabled the block waits (R27, R257; log 9). -/
def blockStep (s : State) : Host.Outcome State Fault Refusal :=
  match s.pend with
  | some r => .next (tryDeliver r s)
  | none =>
    match s.offered with
    | some f => exec (decodeFrame f) s
    | none => .next s

/-- One step: the turn at the head of the schedule, the block's when none is left. A host move that must wait
(R253, log 7) keeps its turn and the block moves. -/
def step (s : State) : Host.Outcome State Fault Refusal :=
  match s.turns with
  | [] => blockStep s
  | .block :: rest => blockStep { s with turns := rest }
  | .host m :: rest =>
    if hostMayMove m s then .next (hostMove m { s with turns := rest }) else blockStep s

/-- The instruction on the inbound channel, with ACCEPT enabled and the block's turn next (log 4): the host has offered
the frame, and PEND is none. -/
def State.withFetchWord (s : State) (nbits w : Nat) : State :=
  { s with
    offered := some (frameOfTableWord nbits w)
    pend := none
    turns := .block :: s.turns }

end Sys2Proof.Machine
end

