-- ==== Sys2Proof/Machine/Router.lean ====
section
/-! DEFINITION. The block's one function as 44_router_dispatch.md R180 writes it: from a frame to its result, beside
the step that decodes the frame to an opcode row and runs the row's meaning. That the two agree is a statement. -/

namespace Sys2Proof.Machine

/-- `DISPATCH(t)` (R184), by the exact value of t. -/
def dispatchBody (t : MsgType) (f : Frame) : Body :=
  match t.toNat with
  | 0x00 => temps1Body f
  | 0x01 => temps2Body f
  | 0x02 => temps3Body f
  | 0x05 => motorPositionBody f
  | 0x06 => currentsBody f
  | 0x07 => voltagesBody f
  | 0x0A => internalStatesBody f
  | 0x0C => torqueTimerBody f
  | _ => unhandledBody t f

/-- `decode(f)` (R180). -/
def routeFrame (f : Frame) : DecodeResult :=
  if Config.lenMax < f.len.toNat then .refused .lenRange
  else if f.id = Config.faultId then recordOf faultBody f
  else if Config.baseId ≤ f.id ∧ f.id ≤ Config.baseId + Config.typeMax.setWidth Config.idWidth then
    recordOf (dispatchBody ((f.id - Config.baseId).setWidth 6)) f
  else .dropped

/-- The record of a result, if it has one. -/
def DecodeResult.toRecord : DecodeResult → Option Record
  | .record r => some r
  | .dropped => none
  | .refused _ => none

end Sys2Proof.Machine
end

