-- ==== Sys2Proof/Safety.lean ====
section
/-! DEFINITION. What counts as a sound record, a sound state and a usable run (70_reset_and_hazards.md R256), what a
step accepts and delivers, and the words the statements use to say an operand's value. -/

namespace Sys2Proof.Machine

/-! ### Operand values, in the words of 41_field_extractor.md -/

/-- The byte at index k of a payload of `len` valid bytes, as a number: 0 at an index ≥ LEN (R101). -/
def paddedByte (len : Len) (data : Payload) (k : Offset 1) : Nat :=
  if len.toNat ≤ k.val then 0 else (dataByte data k).toNat

/-- `P[lo] + 256·P[hi]` (R105). -/
def paddedWord (len : Len) (data : Payload) (lo hi : Offset 1) : Nat :=
  paddedByte len data lo + 256 * paddedByte len data hi

/-- `u` if u < 32768, otherwise `u - 65536` (R106). -/
def signedOf (u : Nat) : Int := if u < 32768 then (u : Int) else (u : Int) - 65536

/-- The signal of a 16-bit signed field (R108, R109). -/
def signalAt (len : Len) (data : Payload) (lo hi : Offset 1) (d : Divisor) (u : UnitTag) : Signal :=
  { raw := signedOf (paddedWord len data lo hi), div := d, unit := u }

/-! ### Sound records -/

/-- A signal of divisor `d` and unit `u` whose raw value is a 16-bit signed integer (00_scope.md R10, R112). -/
def Signal.sound (x : Signal) (d : Divisor) (u : UnitTag) : Bool :=
  x.div == d && x.unit == u && decide (-32768 ≤ x.raw) && decide (x.raw ≤ 32767)

/-- The message types without a schema (44_router_dispatch.md R196); 0x0B is shadowed (30_encoding.md R82). -/
def MsgType.unhandled (t : MsgType) : Bool :=
  t == 0x03#6 || t == 0x04#6 || t == 0x08#6 || t == 0x09#6 || decide (0x0D ≤ t.toNat ∧ t.toNat ≤ Config.typeMax.toNat)

/-- What 10_state.md R29 and the rules that fill a body ask of its fields. -/
def Body.sound : Body → Bool
  | .fault b =>
    b.postVec == b.postHi ++ b.postLo && b.runVec == b.runHi ++ b.runLo &&
      b.postList == faultNames b.postVec && b.runList == faultNames b.runVec
  | .temps1 b =>
    b.moduleA.sound .std .degc && b.moduleB.sound .std .degc && b.moduleC.sound .std .degc &&
      b.gateDriver.sound .std .degc
  | .temps2 b =>
    b.controlBoard.sound .std .degc && b.rtd1.sound .std .degc && b.rtd2.sound .std .degc &&
      b.rtd3.sound .std .degc
  | .temps3 b =>
    b.coolant.sound .std .degc && b.hotspot.sound .std .degc && b.motor.sound .std .degc &&
      b.torqueShudder.sound .std .nm
  | .motorPosition b =>
    b.angle.sound .std .deg && b.angularVelocity.sound .unit .rpm && b.frequency.sound .std .hz &&
      b.deltaResolver.sound .std .deg
  | .currents b =>
    b.phaseA.sound .std .a && b.phaseB.sound .std .a && b.phaseC.sound .std .a && b.dcBus.sound .std .a
  | .voltages b =>
    b.dcBus.sound .std .v && b.output.sound .std .v && b.vabVd.sound .std .v && b.vbcVq.sound .std .v
  | .internalStates b => b.vsmLabel == vsmTable b.vsmCode && b.invLabel == invTable b.invCode
  | .torqueTimer b =>
    b.torqueCmd.sound .std .nm && b.torqueFeedback.sound .std .nm &&
      b.elapsed == { num := Config.tickNum * b.ticks.toNat, div := Config.tickDen, unit := .s }
  | .unhandled b => MsgType.unhandled b.typeCode

/-- A sound record: a sound body, and no length warning on an `UNHANDLED` one (R102). -/
def Record.sound (r : Record) : Bool := r.body.sound && !(r.short && r.kind == .UNHANDLED)

/-! ### Sound states -/

/-- PEND, while it holds a record, holds the record of the latched frame (10_state.md R27), and every record handed
over was sound. -/
def State.Sound (s : State) : Prop :=
  (∀ r, s.pend = some r → routeFrame s.latch = .record r) ∧ (∀ r ∈ s.delivered, r.sound = true)

/-! ### What a step does -/

/-- The host move a step makes, if it makes one. -/
def State.hostTurn (s : State) : Option HostMove :=
  match s.turns with
  | .host m :: _ => if hostMayMove m s then some m else none
  | .block :: _ => none
  | [] => none

/-- The frame a step accepts: the offered one, when the block moves and PEND is none (R27). -/
def State.accepts (s : State) : Option Frame :=
  if s.hostTurn.isNone && s.pend.isNone then s.offered else none

/-- The record a step delivers: the one in PEND, when the block moves and the sink takes it (R27). -/
def State.delivers (s : State) : Option Record :=
  if s.hostTurn.isNone && s.sink != .hold then s.pend else none

/-! ### Runs -/

/-- `n` steps of the machine, stopping at the first fault or refusal. -/
def stepN : Nat → State → Host.Outcome State Fault Refusal
  | 0, s => .next s
  | n + 1, s =>
    match step s with
    | .next t => stepN n t
    | .fault r => .fault r
    | .refused r => .refused r

/-- No host move of the list is a reset. -/
def noReset (ts : List Turn) : Bool := ts.all fun t => t != .host .reset

/-- No host move of the list touches the sink or asserts reset. -/
def sinkUntouched (ts : List Turn) : Bool :=
  ts.all fun t =>
    match t with
    | .block => true
    | .host (.offer _) => true
    | .host (.sink _) => false
    | .host .reset => false

/-- The end of a run over a program (R256): the frames accepted are exactly the program's, in order, so each was
accepted, and PEND is none. A frame a reset withdrew counts only once it is offered again and accepted (log 18). -/
def State.runEnded (s : State) (program : List Frame) : Bool := s.accepted == program && s.pend.isNone

/-- The result of a run that has ended: the delivered records and the mark (R256). -/
def State.runResult (s : State) : List Record × Bool := (s.delivered, s.refusalMark)

/-- A run whose result a claim may use: it has ended and the mark is clear (R256, R224). -/
def State.usableRun (s : State) (program : List Frame) : Bool := s.runEnded program && !s.refusalMark

/-- The turns of a stream of frames offered one after another to a sink that is always ready. -/
def streamTurns (fs : List Frame) : List Turn := scheduleOf (fs.map HostMove.offer)

end Sys2Proof.Machine
end

