-- ==== Sys2Proof/Certificates/Slice0/Obligations.lean ====
section
/-! DEFINITION. The statements for the provers, rule by rule of spec/. -/

open Sys2Proof Sys2Proof.Machine

/-! ### Encoding and decoding -/

/-- R70, R54 (the order of the three fields in one word is log 1's): a frame and its port word hold the same
information, both ways. -/
def Obligations.PortWordHoldsTheFrame : Prop :=
  (∀ f : Frame, Frame.ofPortWord f.portWord = f) ∧ (∀ w : PortWord, (Frame.ofPortWord w).portWord = w)

/-- R70, R74 to R77, R87 (the word's layout is log 1's): decoding the encoding of a well-formed instruction of any row
gives it back, with every operand at every value its row admits. -/
def Obligations.DecodeOfEncodeIsTheInstruction : Prop :=
  ∀ i : Instr, i.wellFormed = true → decode (encode i) = i

/-- R72, R83, R85 (the word's layout is log 1's): every 100-bit word is the encoding of one well-formed instruction, the one it decodes to. -/
def Obligations.EveryWordIsOneWellFormedInstruction : Prop :=
  ∀ w : PortWord, (decode w).wellFormed = true ∧ encode (decode w) = w

/-- The byte image (log 1): decoding the 13 bytes of an instruction gives it back and leaves the rest of the
string; a string that is too short or has a padding bit set is rejected by name. -/
def Obligations.ByteImageRoundTripAndRejections : Prop :=
  (∀ (i : Instr) (rest : List Byte), i.wellFormed = true → decodeBytes (encodeBytes i ++ rest) = .ok (i, rest)) ∧
  (∀ bs : List Byte, bs.length < 13 → decodeBytes bs = .error .truncated) ∧
  (∀ bs rest : List Byte, bs.length = 13 → 2 ^ 100 ≤ natOfBytes bs → decodeBytes (bs ++ rest) = .error .padding)

/-- R72: the fixed test order. LEN > 8 first (that place is the spec's own choice, D25), then FAULT_ID, then the range,
otherwise dropped. -/
def Obligations.DecodeOrderIsFixed : Prop :=
  ∀ f : Frame,
    (8 < f.len.toNat → decodeFrame f = .refuse f.id f.len f.data) ∧
    (f.len.toNat ≤ 8 → f.id = 0x0AB#32 → decodeFrame f = .fault f.len f.data) ∧
    (f.len.toNat ≤ 8 → f.id ≠ 0x0AB#32 → 0x0A0 ≤ f.id.toNat → f.id.toNat ≤ 0x0CF →
      decodeFrame f = decodeType (BitVec.ofNat 6 (f.id.toNat - 0x0A0)) f.len f.data) ∧
    (f.len.toNat ≤ 8 → (f.id.toNat < 0x0A0 ∨ 0x0CF < f.id.toNat) → decodeFrame f = .drop f.id f.len f.data)

/-- R80: the full map of the 48 identifiers of the offset range, and its counts: 8 handled types, 1 shadowed and 39
unhandled. -/
def Obligations.OpcodeMapOfTheOffsetRange : Prop :=
  (∀ f : Frame, f.len.toNat ≤ 8 →
    (f.id = 0x0A0#32 → (decodeFrame f).opcode = .temps1) ∧
    (f.id = 0x0A1#32 → (decodeFrame f).opcode = .temps2) ∧
    (f.id = 0x0A2#32 → (decodeFrame f).opcode = .temps3) ∧
    (f.id = 0x0A3#32 → (decodeFrame f).opcode = .unhandled03) ∧
    (f.id = 0x0A4#32 → (decodeFrame f).opcode = .unhandled04) ∧
    (f.id = 0x0A5#32 → (decodeFrame f).opcode = .motorPosition) ∧
    (f.id = 0x0A6#32 → (decodeFrame f).opcode = .currents) ∧
    (f.id = 0x0A7#32 → (decodeFrame f).opcode = .voltages) ∧
    (f.id = 0x0A8#32 ∨ f.id = 0x0A9#32 → (decodeFrame f).opcode = .unhandled08_09) ∧
    (f.id = 0x0AA#32 → (decodeFrame f).opcode = .internalStates) ∧
    (f.id = 0x0AB#32 → (decodeFrame f).opcode = .fault) ∧
    (f.id = 0x0AC#32 → (decodeFrame f).opcode = .torqueTimer) ∧
    (f.id = 0x0AD#32 → (decodeFrame f).opcode = .unhandled0D) ∧
    (f.id = 0x0AE#32 ∨ f.id = 0x0AF#32 → (decodeFrame f).opcode = .unhandled0E_0F) ∧
    (0x0B0 ≤ f.id.toNat → f.id.toNat ≤ 0x0BF → (decodeFrame f).opcode = .unhandled10_1F) ∧
    (0x0C0 ≤ f.id.toNat → f.id.toNat ≤ 0x0CF → (decodeFrame f).opcode = .unhandled20_2F)) ∧
  ((List.range 48).filter fun t => MsgType.unhandled (BitVec.ofNat 6 t)).length = 39 ∧
  ((List.range 48).filter fun t => !MsgType.unhandled (BitVec.ofNat 6 t) && t != 0x0B).length = 8

/-- R87: on every frame the opcode table's lowest-priority applicable row is the row the decoder takes. -/
def Obligations.OpcodeTableAgreesWithDecoder : Prop :=
  ∀ f : Frame, tableLookup f = some (decodeFrame f).opcode

/-- R87: the rows for FAULT and for the offset types are pairwise disjoint; the rows that match every identifier are
exactly REFUSE and DROP; REFUSE, of priority 0, is the one row for LEN > 8; DROP has the highest priority number; no
priority number is used twice. -/
def Obligations.OpcodeRowsAreDisjoint : Prop :=
  (∀ (id : CanId) (a b : OpcodeRow), a ∈ opcodeTable → b ∈ opcodeTable → a.mask ≠ 0#32 → b.mask ≠ 0#32 →
    id &&& a.mask = a.pattern → id &&& b.mask = b.pattern → a = b) ∧
  (∀ a ∈ opcodeTable, (∀ id : CanId, id &&& a.mask = a.pattern) ↔ a.op = .refuse ∨ a.op = .drop) ∧
  (∀ a ∈ opcodeTable, (a.long = true ↔ a.op = .refuse) ∧ (a.op = .refuse ↔ a.priority = 0)) ∧
  (∀ a d : OpcodeRow, a ∈ opcodeTable → d ∈ opcodeTable → d.op = .drop → a.priority ≤ d.priority) ∧
  (∀ a b : OpcodeRow, a ∈ opcodeTable → b ∈ opcodeTable → a.priority = b.priority → a = b)

/-- Words written out from spec/95_test_vectors.md part L3 (ID, LEN, DATA64) decode to their instructions: a sanity
check (the order of the three fields is log 1's). -/
def Obligations.WrittenOutWordsDecode : Prop :=
  decode (0x00C8FF3800640D48#64 ++ 0x8#4 ++ 0x000000A7#32) =
    .voltages 8#4 ⟨0x48#8, 0x0D#8, 0x64#8, 0x00#8, 0x38#8, 0xFF#8, 0xC8#8, 0x00#8⟩ ∧
  decode (0x0000000001030A06#64 ++ 0x8#4 ++ 0x000000AA#32) =
    .internalStates 8#4 ⟨0x06#8, 0x0A#8, 0x03#8, 0x01#8, 0x00#8, 0x00#8, 0x00#8, 0x00#8⟩ ∧
  decode (0x0001000080008001#64 ++ 0x8#4 ++ 0x000000AB#32) =
    .fault 8#4 ⟨0x01#8, 0x80#8, 0x00#8, 0x80#8, 0x00#8, 0x00#8, 0x01#8, 0x00#8⟩ ∧
  decode (0x00000000000001F4#64 ++ 0x9#4 ++ 0x000000A7#32) =
    .refuse 0xA7#32 9#4 ⟨0xF4#8, 0x01#8, 0x00#8, 0x00#8, 0x00#8, 0x00#8, 0x00#8, 0x00#8⟩ ∧
  decode (0x0000000000000000#64 ++ 0x8#4 ++ 0x000000CF#32) =
    .unhandled20_2F 0xF#4 8#4 ⟨0x00#8, 0x00#8, 0x00#8, 0x00#8, 0x00#8, 0x00#8, 0x00#8, 0x00#8⟩

/-! ### The payload view and the extractors -/

/-- R101: the payload view. Under ZERO_PAD an index at or above LEN reads 0; below LEN either policy reads the latched
byte; of RAW_BUFFER nothing is said at or above LEN, where it is a free draw (log 17). This hardware takes ZERO_PAD (the
zero-padded reading is the spec's decision D8), so no draw matters to it. -/
def Obligations.PayloadViewZeroPads : Prop :=
  (∀ (draw : Nat) (f : Frame) (k : Fin 8), f.len.toNat ≤ k.val →
    payloadViewUnder .zeroPad draw f k = 0x00#8) ∧
  (∀ (policy : Config.ShortFramePolicy) (draw : Nat) (f : Frame) (k : Fin 8), k.val < f.len.toNat →
    payloadViewUnder policy draw f k = dataByte f.data k) ∧
  (∀ (draw : Nat) (f : Frame) (k : Fin 8),
    payloadView f k = payloadViewUnder Config.shortFramePolicy draw f k ∧
    payloadView f k = if f.len.toNat ≤ k.val then 0x00#8 else dataByte f.data k)

/-- R52: MemRead's three widths, and every other request refused (that refusal is the spec's decision D27, and its form
log 15's). -/
def Obligations.MemReadValues : Prop :=
  ∀ f : Frame,
    (∀ k (h : k + 1 ≤ 8), memRead f k 1 = some (payloadView f ⟨k, show k < 8 by omega⟩).toNat) ∧
    (∀ k (h : k + 2 ≤ 8), memRead f k 2 =
      some ((payloadView f ⟨k, show k < 8 by omega⟩).toNat + 256 * (payloadView f ⟨k + 1, show k + 1 < 8 by omega⟩).toNat)) ∧
    (∀ k (h : k + 4 ≤ 8), memRead f k 4 =
      some ((payloadView f ⟨k, show k < 8 by omega⟩).toNat + 256 * (payloadView f ⟨k + 1, show k + 1 < 8 by omega⟩).toNat
        + 65536 * (payloadView f ⟨k + 2, show k + 2 < 8 by omega⟩).toNat
        + 16777216 * (payloadView f ⟨k + 3, show k + 3 < 8 by omega⟩).toNat)) ∧
    (∀ k n, (8 < k + n ∨ (n ≠ 1 ∧ n ≠ 2 ∧ n ≠ 4)) → memRead f k n = none)

/-- R53 (the spec derives it from R51 and R52): reads of different widths over the same bytes agree, and the fault word at offset 2j is MemRead(2j, 2). -/
def Obligations.MemReadWidthsAgree : Prop :=
  ∀ f : Frame,
    (∀ k, k + 4 ≤ 8 → ∃ a b, memRead f k 2 = some a ∧ memRead f (k + 2) 2 = some b ∧
      memRead f k 4 = some (a + 65536 * b)) ∧
    (∀ k, k + 2 ≤ 8 → ∃ a b, memRead f k 1 = some a ∧ memRead f (k + 1) 1 = some b ∧
      memRead f k 2 = some (a + 256 * b)) ∧
    memRead f 0 2 = some (extU16 f 0).toNat ∧ memRead f 2 2 = some (extU16 f 2).toNat ∧
    memRead f 4 2 = some (extU16 f 4).toNat ∧ memRead f 6 2 = some (extU16 f 6).toNat

/-- R54 (the packing is the spec's own choice, D2): byte k sits at DATA64[8k+7:8k], and the n-byte little-endian field at offset k of a full frame is the
contiguous slice DATA64[8(k+n)-1:8k]. -/
def Obligations.FieldsAreSlicesOfData64 : Prop :=
  (∀ (d : Payload) (k : Fin 8), d.data64.extractLsb' (8 * k.val) 8 = dataByte d k) ∧
  (∀ (f : Frame) (k n v : Nat), 8 ≤ f.len.toNat → memRead f k n = some v →
    v = (f.data.data64.extractLsb' (8 * k) (8 * n)).toNat)

/-- R104 to R107: the raw extractors' values in terms of the payload view, for every offset, with the sign taken
from bit 15 in EXT_S16 only. -/
def Obligations.RawExtractorValues : Prop :=
  ∀ f : Frame,
    (∀ k : Fin 8, (extU8 f k).toNat = (payloadView f k).toNat) ∧
    (∀ k : Fin 7, (extU16 f k).toNat =
      (payloadView f ⟨k.val, show k.val < 8 by omega⟩).toNat + 256 * (payloadView f ⟨k.val + 1, show k.val + 1 < 8 by omega⟩).toNat) ∧
    (∀ k : Fin 7, extS16 f k =
      if (extU16 f k).toNat < 32768 then ((extU16 f k).toNat : Int) else ((extU16 f k).toNat : Int) - 65536) ∧
    (∀ k : Fin 7, -32768 ≤ extS16 f k ∧ extS16 f k ≤ 32767) ∧
    (∀ k : Fin 5, (extU32 f k).toNat =
      (payloadView f ⟨k.val, show k.val < 8 by omega⟩).toNat + 2 ^ 8 * (payloadView f ⟨k.val + 1, show k.val + 1 < 8 by omega⟩).toNat
        + 2 ^ 16 * (payloadView f ⟨k.val + 2, show k.val + 2 < 8 by omega⟩).toNat
        + 2 ^ 24 * (payloadView f ⟨k.val + 3, show k.val + 3 < 8 by omega⟩).toNat)

/-- R108, R109, R110: the scaled decoders' exact values, the low-voltage and power uses among them, and the boolean
decoder, which reads its byte as unsigned (the spec's decision D12). -/
def Obligations.ScaledDecoderValues : Prop :=
  ∀ f : Frame,
    (∀ (k : Fin 7) (d : Divisor) (u : UnitTag),
      (decSignedScaled f k d u).raw = extS16 f k ∧ (decSignedScaled f k d u).div = d ∧
      (decSignedScaled f k d u).unit = u) ∧
    (∀ (k : Fin 7) (u : UnitTag), (decSignedScaled f k .std u).value = (extS16 f k : Rat) / 10 ∧
      (decSignedScaled f k .lv u).value = (extS16 f k : Rat) / 100) ∧
    (∀ k : Fin 7, decAngularVelocity f k = { raw := extS16 f k, div := .unit, unit := .rpm } ∧
      (decAngularVelocity f k).value = (extS16 f k : Rat)) ∧
    (∀ k : Fin 7, decLowVoltage f k = { raw := extS16 f k, div := .lv, unit := .v } ∧
      decPower f k = { raw := extS16 f k, div := .std, unit := .w }) ∧
    (∀ k : Fin 8, decBoolean f k = true ↔ payloadView f k ≠ 0x00#8)

/-- R111 (the form num, div, unit is the spec's decision D7): the elapsed time of every tick count, exact, with a
numerator of at most 34 bits. -/
def Obligations.TicksToSecondsIsExact : Prop :=
  ∀ t : BitVec 32,
    ticksToSeconds t = { num := 3 * t.toNat, div := 1000, unit := .s } ∧
    (ticksToSeconds t).value = (3 * t.toNat : Rat) / 1000 ∧
    (ticksToSeconds t).num < 2 ^ 34

/-- R112: scaling is exact (the value times the divisor is the raw integer again) and commutes with negation. -/
def Obligations.ScalingIsExactAndCommutesWithNegation : Prop :=
  ∀ x : Signal,
    x.value * (x.div.toNat : Rat) = (x.raw : Rat) ∧
    ({ x with raw := -x.raw } : Signal).value = -x.value

/-! ### The state labels -/

/-- R131, R132: the VSM label of every code. -/
def Obligations.VsmLabelOfEveryCode : Prop :=
  vsmLabel 0#8 = .START ∧ vsmLabel 1#8 = .PRECHARGE_INIT ∧ vsmLabel 2#8 = .PRECHARGE_ACTIVE ∧
  vsmLabel 3#8 = .PRECHARGE_COMPLETE ∧ vsmLabel 4#8 = .WAIT ∧ vsmLabel 5#8 = .READY ∧
  vsmLabel 6#8 = .MOTOR_RUNNING ∧ vsmLabel 7#8 = .BLINK_FAULT_CODE ∧
  vsmLabel 14#8 = .SHUTDOWN_IN_PROCESS ∧ vsmLabel 15#8 = .RECYCLE_POWER ∧
  ∀ c : BitVec 8, (8 ≤ c.toNat ∧ c.toNat ≤ 13) ∨ 16 ≤ c.toNat → vsmLabel c = .UNKNOWN

/-- R133, R134: the inverter label of every code. -/
def Obligations.InvLabelOfEveryCode : Prop :=
  invLabel 0#8 = .POWER_ON ∧ invLabel 1#8 = .STOP ∧ invLabel 2#8 = .OPEN_LOOP ∧ invLabel 3#8 = .CLOSED_LOOP ∧
  invLabel 4#8 = .WAIT ∧ invLabel 8#8 = .IDLE_RUN ∧ invLabel 9#8 = .IDLE_STOP ∧
  ∀ c : BitVec 8, (5 ≤ c.toNat ∧ c.toNat ≤ 7) ∨ 10 ≤ c.toNat → invLabel c = .UNKNOWN

/-! ### The fault words -/

/-- R153, R154: bit i of the triggered vector is bit i of lo for i < 16 and bit i - 16 of hi otherwise, so the vector
is the concatenation hi ++ lo (the second clause is R154, which the spec derives from R153). -/
def Obligations.FaultVectorIsHiThenLo : Prop :=
  ∀ lo hi : FaultWord,
    (∀ i < 32, (faultTest lo hi).getLsbD i = if i < 16 then lo.getLsbD i else hi.getLsbD (i - 16)) ∧
    faultTest lo hi = hi ++ lo

/-- R156: the triggered names are the catalog's names of the set bits, in catalog order, each at most once, as many as
bits are set. -/
def Obligations.FaultNamesListsTheSetBits : Prop :=
  ∀ vec : BitVec 32,
    (∀ i < 32, ∀ n, catalog[i]? = some n → (n ∈ faultNames vec ↔ vec.getLsbD i = true)) ∧
    (faultNames vec).Sublist catalog ∧
    (faultNames vec).Nodup ∧
    (faultNames vec).length = ((List.range 32).filter fun i => vec.getLsbD i).length

/-- R159: the list carries the vector's information: two vectors with the same names are equal. -/
def Obligations.FaultNamesDetermineTheVector : Prop :=
  ∀ v w : BitVec 32, faultNames v = faultNames w → v = w

/-- R155, C1 (the constructor names and the one catalog are the spec's own, D15): the catalog, entry by entry, index 0
first; 32 names, all different. -/
def Obligations.CatalogHas32Names : Prop :=
  catalog.length = 32 ∧ catalog.Nodup ∧
  (List.range 32).map (fun i => catalog[i]?) =
    [some .GATE_DESAT, some .OVER_CURRENT, some .ACCEL_SHORTED, some .ACCEL_OPEN,
      some .CURRENT_SENSOR_LOW, some .CURRENT_SENSOR_HIGH, some .MODULE_TEMP_LOW, some .MODULE_TEMP_HIGH,
      some .CTRL_PCB_TEMP_LOW, some .CTRL_PCB_TEMP_HIGH, some .GATE_DRIVE_PCB_TEMP_LOW, some .GATE_DRIVE_PCB_TEMP_HIGH,
      some .SENSE_5V_LOW, some .SENSE_5V_HIGH, some .SENSE_12V_LOW, some .SENSE_12V_HIGH] ++
    [some .SENSE_2V5_LOW, some .SENSE_2V5_HIGH, some .SENSE_1V5_LOW, some .SENSE_1V5_HIGH,
      some .DC_BUS_HIGH, some .DC_BUS_LOW, some .PRECHARGE_TIMEOUT, some .PRECHARGE_VOLTAGE_FAILURE,
      some .EEPROM_CHECKSUM, some .EEPROM_RANGE, some .EEPROM_UPDATE, some .HW_DC_BUS_OVERVOLTAGE,
      some .GATE_DRIVER_INIT, some .RESERVED, some .BRAKE_SHORTED, some .BRAKE_OPEN]

/-! ### What each instruction does -/

/-- R188: TEMPS_1 completes with the next state the rule gives, on every legal frame. The
latch, the taken offer and PEND are R27's (D17, D18) over the channel of log 5 and the accepted frames of log 18;
padding and `short` are R101's and R102's (D8). -/
def Obligations.Temps1Record : Prop :=
  ∀ (len : Len) (data : Payload) (s : State), len.toNat ≤ 8 → s.pend = none →
    decodeFrame { id := 0x0A0#32, len := len, data := data } = .temps1 len data ∧
    exec (.temps1 len data) s = .next
      { s with
        latch := { id := 0x0A0#32, len := len, data := data }
        offered := none
        accepted := s.accepted ++ [{ id := 0x0A0#32, len := len, data := data }]
        pend := some
          { short := decide (len.toNat < 8)
            body := .temps1
              { moduleA := signalAt len data 0 1 .std .degc
                moduleB := signalAt len data 2 3 .std .degc
                moduleC := signalAt len data 4 5 .std .degc
                gateDriver := signalAt len data 6 7 .std .degc } } }

/-- R189: TEMPS_2 completes with the next state the rule gives, on every legal frame. The
latch, the taken offer and PEND are R27's (D17, D18) over the channel of log 5 and the accepted frames of log 18;
padding and `short` are R101's and R102's (D8). -/
def Obligations.Temps2Record : Prop :=
  ∀ (len : Len) (data : Payload) (s : State), len.toNat ≤ 8 → s.pend = none →
    decodeFrame { id := 0x0A1#32, len := len, data := data } = .temps2 len data ∧
    exec (.temps2 len data) s = .next
      { s with
        latch := { id := 0x0A1#32, len := len, data := data }
        offered := none
        accepted := s.accepted ++ [{ id := 0x0A1#32, len := len, data := data }]
        pend := some
          { short := decide (len.toNat < 8)
            body := .temps2
              { controlBoard := signalAt len data 0 1 .std .degc
                rtd1 := signalAt len data 2 3 .std .degc
                rtd2 := signalAt len data 4 5 .std .degc
                rtd3 := signalAt len data 6 7 .std .degc } } }

/-- R190: TEMPS_3 completes with the next state the rule gives, on every legal frame; its last slot is a torque. The
latch, the taken offer and PEND are R27's (D17, D18) over the channel of log 5 and the accepted frames of log 18;
padding and `short` are R101's and R102's (D8). -/
def Obligations.Temps3Record : Prop :=
  ∀ (len : Len) (data : Payload) (s : State), len.toNat ≤ 8 → s.pend = none →
    decodeFrame { id := 0x0A2#32, len := len, data := data } = .temps3 len data ∧
    exec (.temps3 len data) s = .next
      { s with
        latch := { id := 0x0A2#32, len := len, data := data }
        offered := none
        accepted := s.accepted ++ [{ id := 0x0A2#32, len := len, data := data }]
        pend := some
          { short := decide (len.toNat < 8)
            body := .temps3
              { coolant := signalAt len data 0 1 .std .degc
                hotspot := signalAt len data 2 3 .std .degc
                motor := signalAt len data 4 5 .std .degc
                torqueShudder := signalAt len data 6 7 .std .nm } } }

/-- R191: MOTOR_POSITION completes with the next state the rule gives, on every legal frame; the angular velocity
alone is not scaled (the unit tag DEG is the spec's own, D16). The
latch, the taken offer and PEND are R27's (D17, D18) over the channel of log 5 and the accepted frames of log 18;
padding and `short` are R101's and R102's (D8). -/
def Obligations.MotorPositionRecord : Prop :=
  ∀ (len : Len) (data : Payload) (s : State), len.toNat ≤ 8 → s.pend = none →
    decodeFrame { id := 0x0A5#32, len := len, data := data } = .motorPosition len data ∧
    exec (.motorPosition len data) s = .next
      { s with
        latch := { id := 0x0A5#32, len := len, data := data }
        offered := none
        accepted := s.accepted ++ [{ id := 0x0A5#32, len := len, data := data }]
        pend := some
          { short := decide (len.toNat < 8)
            body := .motorPosition
              { angle := signalAt len data 0 1 .std .deg
                angularVelocity := signalAt len data 2 3 .unit .rpm
                frequency := signalAt len data 4 5 .std .hz
                deltaResolver := signalAt len data 6 7 .std .deg } } }

/-- R192: CURRENTS completes with the next state the rule gives, on every legal frame. The
latch, the taken offer and PEND are R27's (D17, D18) over the channel of log 5 and the accepted frames of log 18;
padding and `short` are R101's and R102's (D8). -/
def Obligations.CurrentsRecord : Prop :=
  ∀ (len : Len) (data : Payload) (s : State), len.toNat ≤ 8 → s.pend = none →
    decodeFrame { id := 0x0A6#32, len := len, data := data } = .currents len data ∧
    exec (.currents len data) s = .next
      { s with
        latch := { id := 0x0A6#32, len := len, data := data }
        offered := none
        accepted := s.accepted ++ [{ id := 0x0A6#32, len := len, data := data }]
        pend := some
          { short := decide (len.toNat < 8)
            body := .currents
              { phaseA := signalAt len data 0 1 .std .a
                phaseB := signalAt len data 2 3 .std .a
                phaseC := signalAt len data 4 5 .std .a
                dcBus := signalAt len data 6 7 .std .a } } }

/-- R193: VOLTAGES completes with the next state the rule gives, on every legal frame; every slot is divided by 10. The
latch, the taken offer and PEND are R27's (D17, D18) over the channel of log 5 and the accepted frames of log 18;
padding and `short` are R101's and R102's (D8). -/
def Obligations.VoltagesRecord : Prop :=
  ∀ (len : Len) (data : Payload) (s : State), len.toNat ≤ 8 → s.pend = none →
    decodeFrame { id := 0x0A7#32, len := len, data := data } = .voltages len data ∧
    exec (.voltages len data) s = .next
      { s with
        latch := { id := 0x0A7#32, len := len, data := data }
        offered := none
        accepted := s.accepted ++ [{ id := 0x0A7#32, len := len, data := data }]
        pend := some
          { short := decide (len.toNat < 8)
            body := .voltages
              { dcBus := signalAt len data 0 1 .std .v
                output := signalAt len data 2 3 .std .v
                vabVd := signalAt len data 4 5 .std .v
                vbcVq := signalAt len data 6 7 .std .v } } }

/-- R194: INTERNAL_STATES completes with the next state the rule gives, on every legal frame: four bytes of the
payload view and the two labels of the tables; `short` when LEN < 4; bytes 4 to 7 are not read (labels as
enumerators: D14). The
latch, the taken offer and PEND are R27's (D17, D18) over the channel of log 5 and the accepted frames of log 18;
padding and `short` are R101's and R102's (D8). -/
def Obligations.InternalStatesRecord : Prop :=
  ∀ (len : Len) (data : Payload) (s : State), len.toNat ≤ 8 → s.pend = none →
    decodeFrame { id := 0x0AA#32, len := len, data := data } = .internalStates len data ∧
    exec (.internalStates len data) s = .next
      { s with
        latch := { id := 0x0AA#32, len := len, data := data }
        offered := none
        accepted := s.accepted ++ [{ id := 0x0AA#32, len := len, data := data }]
        pend := some
          { short := decide (len.toNat < 4)
            body := .internalStates
              { vsmCode := BitVec.ofNat 8 (paddedByte len data 0)
                vsmLabel := vsmTable (BitVec.ofNat 8 (paddedByte len data 0))
                pwmFreqKhz := BitVec.ofNat 8 (paddedByte len data 1)
                invCode := BitVec.ofNat 8 (paddedByte len data 2)
                invLabel := invTable (BitVec.ofNat 8 (paddedByte len data 2))
                relayState := BitVec.ofNat 8 (paddedByte len data 3) } } }

/-- R195: TORQUE_TIMER completes with the next state the rule gives, on every legal frame; the ticks are unsigned and
the elapsed time is 3·ticks / 1000 s. The
latch, the taken offer and PEND are R27's (D17, D18) over the channel of log 5 and the accepted frames of log 18;
padding and `short` are R101's and R102's (D8); the elapsed form is D7's. -/
def Obligations.TorqueTimerRecord : Prop :=
  ∀ (len : Len) (data : Payload) (s : State), len.toNat ≤ 8 → s.pend = none →
    decodeFrame { id := 0x0AC#32, len := len, data := data } = .torqueTimer len data ∧
    exec (.torqueTimer len data) s = .next
      { s with
        latch := { id := 0x0AC#32, len := len, data := data }
        offered := none
        accepted := s.accepted ++ [{ id := 0x0AC#32, len := len, data := data }]
        pend := some
          { short := decide (len.toNat < 8)
            body := .torqueTimer
              { torqueCmd := signalAt len data 0 1 .std .nm
                torqueFeedback := signalAt len data 2 3 .std .nm
                ticks := BitVec.ofNat 32
                  (paddedWord len data 4 5 + 65536 * paddedWord len data 6 7)
                elapsed :=
                  { num := 3 * (paddedWord len data 4 5 + 65536 * paddedWord len data 6 7)
                    div := 1000
                    unit := .s } } } }

/-- R187: FAULT completes with the next state the rule gives, on every legal frame: the four words, the vectors
hi ++ lo, and the names of each vector's set bits from the one catalog. The
latch, the taken offer and PEND are R27's (D17, D18) over the channel of log 5 and the accepted frames of log 18;
padding and `short` are R101's and R102's (D8); the vector fields are D13's, and that a vector is hi ++ lo is R154's inference. -/
def Obligations.FaultRecord : Prop :=
  ∀ (len : Len) (data : Payload) (s : State), len.toNat ≤ 8 → s.pend = none →
    decodeFrame { id := 0x0AB#32, len := len, data := data } = .fault len data ∧
    exec (.fault len data) s = .next
      { s with
        latch := { id := 0x0AB#32, len := len, data := data }
        offered := none
        accepted := s.accepted ++ [{ id := 0x0AB#32, len := len, data := data }]
        pend := some
          { short := decide (len.toNat < 8)
            body := .fault
              { postLo := BitVec.ofNat 16 (paddedWord len data 0 1)
                postHi := BitVec.ofNat 16 (paddedWord len data 2 3)
                runLo := BitVec.ofNat 16 (paddedWord len data 4 5)
                runHi := BitVec.ofNat 16 (paddedWord len data 6 7)
                postVec := BitVec.ofNat 16 (paddedWord len data 2 3) ++ BitVec.ofNat 16 (paddedWord len data 0 1)
                runVec := BitVec.ofNat 16 (paddedWord len data 6 7) ++ BitVec.ofNat 16 (paddedWord len data 4 5)
                postList := faultNames
                  (BitVec.ofNat 16 (paddedWord len data 2 3) ++ BitVec.ofNat 16 (paddedWord len data 0 1))
                runList := faultNames
                  (BitVec.ofNat 16 (paddedWord len data 6 7) ++ BitVec.ofNat 16 (paddedWord len data 4 5)) } } }

/-- R196: the identifiers of each of the seven rows of types without a schema decode to it, and it completes with the
`UNHANDLED` record of its type code, on every legal frame, never short. The latch,
the taken offer and PEND are R27's (D17, D18) over the channel of log 5 and the accepted frames of log 18; `short` is
R102's (D8). -/
def Obligations.UnhandledRecords : Prop :=
  ∀ (len : Len) (data : Payload) (s : State), len.toNat ≤ 8 → s.pend = none →
    (decodeFrame { id := 0x0A3#32, len := len, data := data } = .unhandled03 len data ∧
      exec (.unhandled03 len data) s = .next
        { s with
          latch := { id := 0x0A3#32, len := len, data := data }
          offered := none
          accepted := s.accepted ++ [{ id := 0x0A3#32, len := len, data := data }]
          pend := some { short := false, body := .unhandled { typeCode := 0x03#6 } } }) ∧
    (decodeFrame { id := 0x0A4#32, len := len, data := data } = .unhandled04 len data ∧
      exec (.unhandled04 len data) s = .next
        { s with
          latch := { id := 0x0A4#32, len := len, data := data }
          offered := none
          accepted := s.accepted ++ [{ id := 0x0A4#32, len := len, data := data }]
          pend := some { short := false, body := .unhandled { typeCode := 0x04#6 } } }) ∧
    (∀ low : BitVec 1,
      decodeFrame { id := BitVec.ofNat 32 (0x0A8 + low.toNat), len := len, data := data } = .unhandled08_09 low len data ∧
      exec (.unhandled08_09 low len data) s = .next
        { s with
          latch := { id := BitVec.ofNat 32 (0x0A8 + low.toNat), len := len, data := data }
          offered := none
          accepted := s.accepted ++ [{ id := BitVec.ofNat 32 (0x0A8 + low.toNat), len := len, data := data }]
          pend := some { short := false, body := .unhandled { typeCode := BitVec.ofNat 6 (0x08 + low.toNat) } } }) ∧
    (decodeFrame { id := 0x0AD#32, len := len, data := data } = .unhandled0D len data ∧
      exec (.unhandled0D len data) s = .next
        { s with
          latch := { id := 0x0AD#32, len := len, data := data }
          offered := none
          accepted := s.accepted ++ [{ id := 0x0AD#32, len := len, data := data }]
          pend := some { short := false, body := .unhandled { typeCode := 0x0D#6 } } }) ∧
    (∀ low : BitVec 1,
      decodeFrame { id := BitVec.ofNat 32 (0x0AE + low.toNat), len := len, data := data } = .unhandled0E_0F low len data ∧
      exec (.unhandled0E_0F low len data) s = .next
        { s with
          latch := { id := BitVec.ofNat 32 (0x0AE + low.toNat), len := len, data := data }
          offered := none
          accepted := s.accepted ++ [{ id := BitVec.ofNat 32 (0x0AE + low.toNat), len := len, data := data }]
          pend := some { short := false, body := .unhandled { typeCode := BitVec.ofNat 6 (0x0E + low.toNat) } } }) ∧
    (∀ low : BitVec 4,
      decodeFrame { id := BitVec.ofNat 32 (0x0B0 + low.toNat), len := len, data := data } = .unhandled10_1F low len data ∧
      exec (.unhandled10_1F low len data) s = .next
        { s with
          latch := { id := BitVec.ofNat 32 (0x0B0 + low.toNat), len := len, data := data }
          offered := none
          accepted := s.accepted ++ [{ id := BitVec.ofNat 32 (0x0B0 + low.toNat), len := len, data := data }]
          pend := some { short := false, body := .unhandled { typeCode := BitVec.ofNat 6 (0x10 + low.toNat) } } }) ∧
    (∀ low : BitVec 4,
      decodeFrame { id := BitVec.ofNat 32 (0x0C0 + low.toNat), len := len, data := data } = .unhandled20_2F low len data ∧
      exec (.unhandled20_2F low len data) s = .next
        { s with
          latch := { id := BitVec.ofNat 32 (0x0C0 + low.toNat), len := len, data := data }
          offered := none
          accepted := s.accepted ++ [{ id := BitVec.ofNat 32 (0x0C0 + low.toNat), len := len, data := data }]
          pend := some { short := false, body := .unhandled { typeCode := BitVec.ofNat 6 (0x20 + low.toNat) } } })

/-- R186 (decision D10): DROP completes; the frame is consumed, PEND stays none, no mark is set. The latch and the taken offer are
R27's over the channel of log 5 and the accepted frames of log 18. -/
def Obligations.DropConsumesTheFrame : Prop :=
  ∀ (id : CanId) (len : Len) (data : Payload) (s : State),
    (Instr.drop id len data).wellFormed = true → s.pend = none →
      decodeFrame { id := id, len := len, data := data } = .drop id len data ∧
      exec (.drop id len data) s = .next
        { s with
          latch := { id := id, len := len, data := data }
          offered := none
          accepted := s.accepted ++ [{ id := id, len := len, data := data }] }

/-- R224 (decision D9): REFUSE completes; the refusal mark is set, PEND is unchanged, no record is produced. The latch and the taken offer are
R27's over the channel of log 5 and the accepted frames of log 18. -/
def Obligations.RefuseSetsTheMark : Prop :=
  ∀ (id : CanId) (len : Len) (data : Payload) (s : State),
    (Instr.refuse id len data).wellFormed = true → s.pend = none →
      decodeFrame { id := id, len := len, data := data } = .refuse id len data ∧
      exec (.refuse id len data) s = .next
        { s with
          latch := { id := id, len := len, data := data }
          offered := none
          accepted := s.accepted ++ [{ id := id, len := len, data := data }]
          refusalMark := true }

/-- R27, R185: the frame of every instruction. It changes no delivered record, no sink and no turn; while PEND is full
it is not accepted and changes nothing at all (log 9); while PEND is none it writes the whole latch, takes the offer
off the channel and counts the frame as accepted; only REFUSE touches the mark, and REFUSE and DROP leave PEND alone. -/
def Obligations.InstructionFrame : Prop :=
  ∀ (i : Instr) (s t : State), exec i s = .next t →
    t.sink = s.sink ∧ t.delivered = s.delivered ∧ t.turns = s.turns ∧ t.freeDraw = s.freeDraw ∧
    (∀ r, s.pend = some r → t = s) ∧
    (s.pend = none → t.latch = encodeFrame i ∧ t.offered = none ∧ t.accepted = s.accepted ++ [encodeFrame i]) ∧
    (i.opcode ≠ .refuse → t.refusalMark = s.refusalMark) ∧
    (i.opcode = .refuse ∨ i.opcode = .drop → t.pend = s.pend)

/-! ### The router -/

/-- R180, R27: the step's way (decode the frame to an opcode row, run the row's meaning) is ACCEPT as R27 writes it
over decode(f) as R180 writes it, on every frame and state. -/
def Obligations.AcceptIsTheRoutersDecode : Prop :=
  ∀ (f : Frame) (s : State), s.pend = none →
    exec (decodeFrame f) s =
      .next (applyResult (routeFrame f) { s with latch := f, offered := none, accepted := s.accepted ++ [f] })

/-- R180 to R183, R223: decode(f) by the identifier's range and the length, refusal first (D25). -/
def Obligations.RouterCases : Prop :=
  ∀ f : Frame,
    (8 < f.len.toNat → routeFrame f = .refused .lenRange) ∧
    (f.len.toNat ≤ 8 → f.id = 0x0AB#32 → routeFrame f = .record (mkRecord f (faultBody f))) ∧
    (f.len.toNat ≤ 8 → f.id ≠ 0x0AB#32 → 0x0A0 ≤ f.id.toNat → f.id.toNat ≤ 0x0CF →
      routeFrame f = .record (mkRecord f (dispatchBody (BitVec.ofNat 6 (f.id.toNat - 0x0A0)) f))) ∧
    (f.len.toNat ≤ 8 → (f.id.toNat < 0x0A0 ∨ 0x0CF < f.id.toNat) → routeFrame f = .dropped)

/-- R102: `short` is LEN < REQ(kind), REQ being 8, 4 for INTERNAL_STATES and 0 for UNHANDLED; so an UNHANDLED record
is never short (decision D8). -/
def Obligations.ShortFlagOfEveryRecord : Prop :=
  ∀ (f : Frame) (r : Record), routeFrame f = .record r →
    (r.kind = .INTERNAL_STATES → r.short = decide (f.len.toNat < 4)) ∧
    (r.kind = .UNHANDLED → r.short = false) ∧
    (r.kind ≠ .INTERNAL_STATES → r.kind ≠ .UNHANDLED → r.short = decide (f.len.toNat < 8))

/-- R78 (names and numbers are the spec's own, D13, D24): the kind codes 0x0 to 0x9 in the rule's order, which identifier selects which kind, and 0xA to 0xF name no
kind. -/
def Obligations.KindCodes : Prop :=
  [RecordKind.FAULT, .TEMPS_1, .TEMPS_2, .TEMPS_3, .MOTOR_POSITION, .CURRENTS, .VOLTAGES, .INTERNAL_STATES,
    .TORQUE_TIMER, .UNHANDLED].map RecordKind.code = [0#4, 1#4, 2#4, 3#4, 4#4, 5#4, 6#4, 7#4, 8#4, 9#4] ∧
  (∀ k : RecordKind, RecordKind.ofCode k.code = some k) ∧
  (∀ c : BitVec 4, 0xA ≤ c.toNat → RecordKind.ofCode c = none) ∧
  (∀ (f : Frame) (r : Record), routeFrame f = .record r →
    (r.kind = .FAULT ↔ f.id = 0x0AB#32) ∧ (r.kind = .TEMPS_1 ↔ f.id = 0x0A0#32) ∧
    (r.kind = .TEMPS_2 ↔ f.id = 0x0A1#32) ∧ (r.kind = .TEMPS_3 ↔ f.id = 0x0A2#32) ∧
    (r.kind = .MOTOR_POSITION ↔ f.id = 0x0A5#32) ∧ (r.kind = .CURRENTS ↔ f.id = 0x0A6#32) ∧
    (r.kind = .VOLTAGES ↔ f.id = 0x0A7#32) ∧ (r.kind = .INTERNAL_STATES ↔ f.id = 0x0AA#32) ∧
    (r.kind = .TORQUE_TIMER ↔ f.id = 0x0AC#32))

/-- R221: which outcome codes describe the result of a frame: SHORT or OK by `short`, UNHANDLED_TYPE for a type
without a schema, UNKNOWN_STATE for a code outside its table, DROPPED and REFUSED_LEN alone. -/
def Obligations.OutcomeCodesOfEveryFrame : Prop :=
  ∀ f : Frame,
    (OutcomeCode.REFUSED_LEN.describes (routeFrame f) = true ↔ 8 < f.len.toNat) ∧
    (OutcomeCode.DROPPED.describes (routeFrame f) = true ↔
      f.len.toNat ≤ 8 ∧ (f.id.toNat < 0x0A0 ∨ 0x0CF < f.id.toNat)) ∧
    (OutcomeCode.UNHANDLED_TYPE.describes (routeFrame f) = true ↔
      f.len.toNat ≤ 8 ∧ 0x0A0 ≤ f.id.toNat ∧ f.id.toNat ≤ 0x0CF ∧
        MsgType.unhandled (BitVec.ofNat 6 (f.id.toNat - 0x0A0)) = true) ∧
    (OutcomeCode.UNKNOWN_STATE.describes (routeFrame f) = true ↔
      f.len.toNat ≤ 8 ∧ f.id = 0x0AA#32 ∧
        (vsmTable (payloadView f 0) = .UNKNOWN ∨ invTable (payloadView f 2) = .UNKNOWN)) ∧
    (∀ r, routeFrame f = .record r →
      OutcomeCode.SHORT.describes (routeFrame f) = r.short ∧ OutcomeCode.OK.describes (routeFrame f) = !r.short)

/-- R101, R102, R180: payload bytes at an index at or above LEN cannot influence the result of a decode, and no byte at
all influences that of an INTERNAL_STATES frame beyond index 3. -/
def Obligations.UnreadBytesDoNotMatter : Prop :=
  (∀ f g : Frame, f.id = g.id → f.len = g.len →
    (∀ k : Fin 8, k.val < f.len.toNat → dataByte f.data k = dataByte g.data k) → routeFrame f = routeFrame g) ∧
  (∀ f g : Frame, f.id = 0x0AA#32 → f.id = g.id → f.len = g.len →
    (∀ k : Fin 8, k.val < 4 → dataByte f.data k = dataByte g.data k) → routeFrame f = routeFrame g)

/-- R82, R10, R112, R159: every record a decode yields is sound: its raw values are 16-bit signed integers with the
divisor and unit of their field, its vectors and lists are those of its words, its labels those of its codes, and no
UNHANDLED record carries a type with a schema or 0x0B. -/
def Obligations.EveryRecordIsSound : Prop :=
  ∀ (f : Frame) (r : Record), routeFrame f = .record r → r.sound = true

/-! ### Steps -/

/-- R27: when the block moves, PEND is none and a frame is offered, a step is exec of the instruction the frame decodes
to, at that state with the block's turn used up (the turns are log 4's). -/
def Obligations.StepRunsTheDecodedInstruction : Prop :=
  ∀ (s : State) (f : Frame), s.pend = none → s.offered = some f →
    (s.turns = [] → step s = exec (decodeFrame f) s) ∧
    (∀ rest, s.turns = .block :: rest → step s = exec (decodeFrame f) { s with turns := rest })

/-- R27: DELIVER hands the whole record over after those delivered before, and empties PEND; a sink that was ready once
is ready no more (log 5). -/
def Obligations.DeliverHandsOverTheRecord : Prop :=
  ∀ (s : State) (r : Record), s.pend = some r → s.sink ≠ .hold → s.turns = [] →
    step s = .next
      { s with pend := none, delivered := s.delivered ++ [r]
               sink := if s.sink = .once then .hold else s.sink }

/-- R27, R257: with no turn left, a block whose sink takes nothing, or that is offered nothing, stays as it is: a stuck
state, not a fault (log 9). -/
def Obligations.WaitingChangesNothing : Prop :=
  ∀ s : State, s.turns = [] →
    ((∃ r, s.pend = some r) ∧ s.sink = .hold) ∨ (s.pend = none ∧ s.offered = none) → step s = .next s

/-- R220: no step faults or is refused. -/
def Obligations.EveryStepGoesOn : Prop :=
  ∀ s : State, ∃ t : State, step s = .next t

/-- R33, R25 (decisions D19, D5): what reset leaves, of the values the spec gives: PEND none, the mark clear, and the hardwired constants. -/
def Obligations.ResetValues : Prop :=
  State.reset.pend = none ∧ State.reset.refusalMark = false ∧
  Config.baseId = 0x000000A0#32 ∧ Config.faultId = 0x000000AB#32 ∧ Config.typeMax = 0x2F#6 ∧
  Config.shortFramePolicy.bit = 0#1

/-- R250: the host's reset move at any state: PEND none, the mark clear, the offered frame not accepted; nothing is said
of the latch. The rest is the model's reading, not R250's words: that reset is one move that takes the offer off the
channel and keeps the records delivered and the sink (log 6, DEDUCED), and that it keeps the list of the frames accepted
before (log 18, DEDUCED). -/
def Obligations.HostResetEmptiesTheBlock : Prop :=
  ∀ (s : State) (rest : List Turn), s.turns = .host .reset :: rest →
    ∃ t, step s = .next t ∧ t.pend = none ∧ t.refusalMark = false ∧ t.offered = none ∧
      t.delivered = s.delivered ∧ t.accepted = s.accepted ∧ t.sink = s.sink ∧ t.turns = rest

/-- R33: no run observes the latch before an ACCEPT writes it: two states that differ only in their latch go through
runs that differ at most in their latch. -/
def Obligations.LatchIsNeverObserved : Prop :=
  ∀ (n : Nat) (s : State) (l : Frame), ∃ t u : State,
    stepN n s = .next t ∧ stepN n { s with latch := l } = .next u ∧ { t with latch := l } = { u with latch := l }

/-- R32: the records handed over and the frames accepted earlier influence nothing: with others in front, every run
does the same and only adds to them (that the two lists are in the state is log 5's and log 18's). -/
def Obligations.HistoryDoesNotMatter : Prop :=
  ∀ (n : Nat) (s : State) (d : List Record) (a : List Frame), ∃ t : State,
    stepN n s = .next t ∧
    stepN n { s with delivered := d ++ s.delivered, accepted := a ++ s.accepted } =
      .next { t with delivered := d ++ t.delivered, accepted := a ++ t.accepted }

/-- R224: outside a reset, the mark after a step is the mark before it, or set by the ACCEPT of a frame with LEN > 8. -/
def Obligations.MarkIsSticky : Prop :=
  ∀ s t : State, step s = .next t → s.hostTurn ≠ some .reset →
    (t.refusalMark = true ↔ s.refusalMark = true ∨ ∃ f, s.accepts = some f ∧ 8 < f.len.toNat)

/-- R27, R59: every step adds to the frames accepted exactly the frame it accepts, if any (log 18), and, outside a
reset, adds at the end of the records handed over or pending exactly that frame's record, if it has one: none is lost,
repeated or reordered. -/
def Obligations.RecordsLeaveInAcceptanceOrder : Prop :=
  ∀ s t : State, step s = .next t →
    t.accepted = s.accepted ++ s.accepts.toList ∧
    (s.hostTurn ≠ some .reset →
      t.delivered ++ t.pend.toList =
        s.delivered ++ s.pend.toList ++ (s.accepts.bind fun f => (routeFrame f).toRecord).toList)

/-- R253 (a second offer waits: log 7): an offered frame stays offered, unchanged, until a step accepts it or the host resets the block. -/
def Obligations.OfferIsHeldUntilAccepted : Prop :=
  ∀ (s t : State) (f : Frame), step s = .next t → s.offered = some f → s.hostTurn ≠ some .reset →
    if s.pend = none ∧ s.hostTurn = none then t.offered = none ∧ t.latch = f else t.offered = some f ∧ t.latch = s.latch

/-- R26, R32: a pending record leaves PEND only by being delivered, or by reset. -/
def Obligations.PendingRecordStaysUntilDelivered : Prop :=
  ∀ (s t : State) (r : Record), step s = .next t → s.pend = some r → s.hostTurn ≠ some .reset →
    if s.delivers = some r then t.pend = none ∧ t.delivered = s.delivered ++ [r]
    else t.pend = some r ∧ t.delivered = s.delivered

/-! ### Invariants and runs -/

/-- R27, R33: the invariant holds at reset (that nothing has been delivered then is log 5's choice). -/
def Obligations.ResetIsSound : Prop := State.reset.Sound

/-- R27, R180: every step keeps the invariant: PEND holds the record of the latched frame, and every record handed
over is sound. -/
def Obligations.StepKeepsSoundness : Prop :=
  ∀ s t : State, s.Sound → step s = .next t → t.Sound

/-- R257: if the host keeps a frame offered while PEND is none, it is accepted within as many steps as the host has
moves planned and one more, unless the host resets (the moves planned are log 4's). -/
def Obligations.OfferedFrameIsAccepted : Prop :=
  ∀ (s : State) (f : Frame), s.pend = none → s.offered = some f → noReset s.turns = true →
    ∃ n t, n ≤ s.turns.length + 1 ∧ stepN n s = .next t ∧ t.latch = f ∧ t.offered = none ∧
      t.pend = (routeFrame f).toRecord

/-- R257: if the host is ready while PEND holds a record, it is delivered within as many steps as the host has moves
planned and one more, unless the host withdraws its readiness or resets (the moves planned are log 4's). -/
def Obligations.PendingRecordIsDelivered : Prop :=
  ∀ (s : State) (r : Record), s.pend = some r → s.sink ≠ .hold → sinkUntouched s.turns = true →
    ∃ n t, n ≤ s.turns.length + 1 ∧ stepN n s = .next t ∧ t.pend = none ∧ t.delivered = s.delivered ++ [r]

/-- R256, R27, R197, R224: for every stream of frames, offered one after another to a sink that is always ready, from
any state whose PEND and channel are empty: the run over the frames accepted before and the stream ends, the mark is
set exactly if it was or some frame had LEN > 8, and, if the run is one a claim may use (the mark is clear), its result
is the records delivered before and then exactly those of the in-range frames, in order (the schedule is log 4's, the
sink's modes log 5's, the accepted frames log 18's). -/
def Obligations.StreamDeliversEveryRecordInOrder : Prop :=
  ∀ (fs : List Frame) (s : State), s.pend = none → s.offered = none → s.sink = .always → s.turns = streamTurns fs →
    ∃ t, stepN (3 * fs.length) s = .next t ∧ t.runEnded (s.accepted ++ fs) = true ∧
      (t.refusalMark = true ↔ s.refusalMark = true ∨ ∃ f ∈ fs, 8 < f.len.toNat) ∧
      (t.usableRun (s.accepted ++ fs) = true →
        t.runResult = (s.delivered ++ fs.filterMap (fun f => (routeFrame f).toRecord), false))
end

