-- ==== Sys2Proof/Laws/Decode.lean ====
section
/-! SUPPORT. What the port word, the decoder's tests and the encoder's frames give, said once. -/

namespace Sys2Proof

/-! ### The widths as numbers, for omega -/

theorem CanId.toNat_lt (id : CanId) : id.toNat < 4294967296 := id.isLt
theorem Len.toNat_lt (len : Len) : len.toNat < 16 := len.isLt
@[simp] theorem baseId_toNat : Config.baseId.toNat = 0xA0 := rfl
@[simp] theorem faultId_toNat : Config.faultId.toNat = 0xAB := rfl
@[simp] theorem typeMax_toNat : Config.typeMax.toNat = 0x2F := rfl

/-! ### The port word, bit by bit -/

/-- Bit i of `DATA64` is bit i - 8k of byte k, for the k with 8k ≤ i < 8k + 8 (R54). -/
theorem Payload.data64_getLsbD (d : Payload) (i : Nat) : d.data64.getLsbD i =
    if i < 8 then d.b0.getLsbD i else if i < 16 then d.b1.getLsbD (i - 8)
    else if i < 24 then d.b2.getLsbD (i - 16) else if i < 32 then d.b3.getLsbD (i - 24)
    else if i < 40 then d.b4.getLsbD (i - 32) else if i < 48 then d.b5.getLsbD (i - 40)
    else if i < 56 then d.b6.getLsbD (i - 48) else d.b7.getLsbD (i - 56) := by
  unfold Payload.data64
  show BitVec.getLsbD (w := 8 + 8 + 8 + 8 + 8 + 8 + 8 + 8) _ i = _
  simp only [BitVec.getLsbD_append]
  split_ifs <;> first | rfl | omega

/-- Bit i of the port word: the identifier, then the length, then `DATA64` (log 1). -/
theorem Frame.portWord_getLsbD (f : Frame) (i : Nat) : f.portWord.getLsbD i =
    if i < 32 then f.id.getLsbD i else if i < 36 then f.len.getLsbD (i - 32)
    else f.data.data64.getLsbD (i - 36) := by
  unfold Frame.portWord
  show BitVec.getLsbD (w := 64 + 4 + 32) _ i = _
  simp only [BitVec.getLsbD_append]
  simp only [Config.idWidth, Config.lenWidth]
  split_ifs <;> first | rfl | omega

@[simp] theorem Payload.ofData64_data64 (d : Payload) : Payload.ofData64 d.data64 = d := by
  obtain ⟨b0, b1, b2, b3, b4, b5, b6, b7⟩ := d
  simp only [Payload.ofData64, Payload.mk.injEq]
  refine ⟨?_, ?_, ?_, ?_, ?_, ?_, ?_, ?_⟩ <;>
  · apply BitVec.eq_of_getLsbD_eq
    intro i hi
    rw [BitVec.getLsbD_extractLsb', Payload.data64_getLsbD]
    interval_cases i <;> simp

@[simp] theorem Payload.data64_ofData64 (w : BitVec Config.dataWidth) : (Payload.ofData64 w).data64 = w := by
  apply BitVec.eq_of_getLsbD_eq
  intro i hi
  replace hi : i < 64 := hi
  rw [Payload.data64_getLsbD]
  simp only [Payload.ofData64, BitVec.getLsbD_extractLsb']
  split_ifs
  · rw [show 0 + i = i by omega]
    simp
    omega
  all_goals
    · rw [Bool.and_eq_right_iff_imp.mpr (by intros; simp; omega)]
      congr 1
      omega

/-! ### The decoder's tests -/

theorem lenTooLong_iff (len : Len) : lenTooLong len = true ↔ 8 < len.toNat := by
  rw [lenTooLong, decide_eq_true_iff]

theorem legal_iff (len : Len) : Len.legal len = true ↔ len.toNat ≤ 8 := by
  rw [Len.legal, decide_eq_true_iff]

theorem lenTooLong_eq_not_legal (len : Len) : lenTooLong len = !Len.legal len := by
  rw [Bool.eq_iff_iff, lenTooLong_iff, Bool.not_eq_true', ← Bool.not_eq_true, legal_iff]
  omega

theorem idInRange_iff (id : CanId) : idInRange id = true ↔ 0xA0 ≤ id.toNat ∧ id.toNat ≤ 0xCF := by
  simp [idInRange, Config.baseId, Config.typeMax]

theorem inRange_iff (id : CanId) : CanId.inRange id = true ↔ 0xA0 ≤ id.toNat ∧ id.toNat ≤ 0xCF := by
  simp [CanId.inRange, Config.baseId, Config.typeMax]

/-- R183: the message type is the identifier's distance from BASE_ID. -/
theorem msgType_toNat {id : CanId} (h : 0xA0 ≤ id.toNat ∧ id.toNat ≤ 0xCF) :
    (msgType id).toNat = id.toNat - 0xA0 := by
  have := id.isLt
  simp [msgType, Config.baseId, BitVec.toNat_sub]
  omega

/-! ### The encoder's frames -/

theorem typeFrame_id_toNat (t : MsgType) (len : Len) (data : Payload) :
    (typeFrame t len data).id.toNat = 0xA0 + t.toNat := by
  have := t.isLt
  simp [typeFrame, Config.baseId]
  omega

theorem typeFrame_msgType {f : Frame} (h : 0xA0 ≤ f.id.toNat ∧ f.id.toNat ≤ 0xCF) :
    typeFrame (msgType f.id) f.len f.data = f := by
  obtain ⟨id, len, data⟩ := f
  have e := typeFrame_id_toNat (msgType id) len data
  simp only [typeFrame, Frame.mk.injEq, and_self, and_true] at e ⊢
  apply BitVec.eq_of_toNat_eq
  have hm := msgType_toNat h
  simp only at hm h
  omega

/-- A property of the 48 message types, one by one. -/
theorem msgType_cases {P : MsgType → Prop} (hP : ∀ n < 48, P (BitVec.ofNat 6 n)) {t : MsgType}
    (h : t.toNat ≤ 0x2F) : P t := by
  have := hP t.toNat (by omega)
  simpa using this

/-- A property of the 16 four-bit operands, one by one. -/
theorem low4_cases {P : BitVec 4 → Prop} (hP : ∀ n < 16, P (BitVec.ofNat 4 n)) (low : BitVec 4) : P low := by
  have := hP low.toNat low.isLt
  simpa using this

theorem encodeFrame_decodeType {t : MsgType} (h : t.toNat ≤ 0x2F) (len : Len) (data : Payload) :
    encodeFrame (decodeType t len data) = typeFrame t len data := by
  refine msgType_cases (P := fun t => encodeFrame (decodeType t len data) = typeFrame t len data) ?_ h
  intro n hn
  interval_cases n <;> rfl

theorem wellFormed_decodeType {t : MsgType} (h : t.toNat ≤ 0x2F) (len : Len) (data : Payload) :
    (decodeType t len data).wellFormed = Len.legal len := by
  refine msgType_cases (P := fun t => (decodeType t len data).wellFormed = Len.legal len) ?_ h
  intro n hn
  interval_cases n <;> rfl

/-- A frame of an offset type other than the shadowed one decodes by its type (R72, R82). -/
theorem decodeFrame_typeFrame {t : MsgType} {len : Len} (hl : Len.legal len = true) (ht : t.toNat ≤ 0x2F)
    (hb : t.toNat ≠ 0xB) (data : Payload) : decodeFrame (typeFrame t len data) = decodeType t len data := by
  have hid := typeFrame_id_toNat t len data
  have hr : idInRange (typeFrame t len data).id = true := by
    rw [idInRange_iff]
    omega
  have hm : msgType (typeFrame t len data).id = t := by
    apply BitVec.eq_of_toNat_eq
    rw [msgType_toNat (by omega)]
    omega
  have hn : (typeFrame t len data).id ≠ Config.faultId := by
    intro hc
    rw [hc] at hid
    simp [Config.faultId] at hid
    omega
  have h1 : lenTooLong (typeFrame t len data).len = false := by
    rw [lenTooLong_eq_not_legal, show (typeFrame t len data).len = len from rfl, hl]
    rfl
  unfold decodeFrame
  rw [if_neg (by simp [h1]), if_neg hn, if_pos hr, hm]
  rfl

/-! ### Bytes -/

theorem natOfBytes_bytesOfNat : ∀ n w, natOfBytes (bytesOfNat n w) = w % 256 ^ n
  | 0, w => by simp [bytesOfNat, natOfBytes, Nat.mod_one]
  | n + 1, w => by
    simp [bytesOfNat, natOfBytes, natOfBytes_bytesOfNat n, Nat.pow_succ, Nat.mul_comm]
    rw [Nat.mod_mul, Nat.mul_comm]

@[simp] theorem length_bytesOfNat : ∀ n w, (bytesOfNat n w).length = n
  | 0, _ => rfl
  | n + 1, w => by simp [bytesOfNat, length_bytesOfNat n]

/-! ### The opcode table -/

theorem OpcodeRow.applies_iff (r : OpcodeRow) (f : Frame) :
    r.applies f = true ↔ f.id &&& r.mask = r.pattern ∧ r.long = lenTooLong f.len := by
  simp [OpcodeRow.applies]

theorem decodeType_opcode (t : MsgType) (len len' : Len) (data data' : Payload) :
    (decodeType t len data).opcode = (decodeType t len' data').opcode := by
  unfold decodeType
  split <;> first | rfl | (split <;> rfl)

end Sys2Proof
end

