-- ==== Sys2Proof/Laws/Operands.lean ====
section
/-! SUPPORT. What the payload view, the extractors and the fault scan give: one lemma per function, in the sums of
20_memory.md R52 and the bits of 43_fault_decoder.md R153. -/

namespace Sys2Proof

/-! ### The offsets as numbers, for omega -/

theorem Offset.val_lt_one (k : Offset 1) : k.val < 8 := k.isLt
theorem Offset.val_lt_two (k : Offset 2) : k.val < 7 := k.isLt
theorem Offset.val_lt_four (k : Offset 4) : k.val < 5 := k.isLt

end Sys2Proof

namespace Sys2Proof.Machine

/-! ### The payload view -/

theorem payloadView_eq (f : Frame) (k : Offset 1) :
    payloadView f k = if f.len.toNat ≤ k.val then 0#8 else dataByte f.data k := rfl

theorem payloadView_toNat (f : Frame) (k : Offset 1) :
    (payloadView f k).toNat = paddedByte f.len f.data k := by
  unfold paddedByte
  rw [payloadView_eq]
  split <;> rfl

theorem leValue_succ (f : Frame) (k n : Nat) (h : k + (n + 1) ≤ 8) :
    leValue f k (n + 1) h =
      leValue f k n (Nat.le_of_succ_le h) + (payloadView f ⟨k + n, h⟩).toNat * 256 ^ n := rfl

theorem leValue_one (f : Frame) (k : Nat) (h : k + 1 ≤ 8) :
    leValue f k 1 h = (payloadView f ⟨k, h⟩).toNat := by
  simp [leValue]

theorem leValue_two (f : Frame) (k : Nat) (h : k + 2 ≤ 8) :
    leValue f k 2 h = (payloadView f ⟨k, show k < 8 by omega⟩).toNat + 256 * (payloadView f ⟨k + 1, h⟩).toNat := by
  simp [leValue]
  omega

theorem leValue_four (f : Frame) (k : Nat) (h : k + 4 ≤ 8) :
    leValue f k 4 h =
      (payloadView f ⟨k, show k < 8 by omega⟩).toNat + 256 * (payloadView f ⟨k + 1, show k + 1 < 8 by omega⟩).toNat
        + 65536 * (payloadView f ⟨k + 2, show k + 2 < 8 by omega⟩).toNat + 16777216 * (payloadView f ⟨k + 3, h⟩).toNat := by
  simp [leValue]
  omega

/-- The value of n bytes is below 256^n, so no extractor truncates it. -/
theorem leValue_lt (f : Frame) (k : Nat) : ∀ (n : Nat) (h : k + n ≤ 8), leValue f k n h < 256 ^ n
  | 0, _ => by simp [leValue]
  | n + 1, h => by
    have ih := leValue_lt f k n (Nat.le_of_succ_le h)
    have hb := (payloadView f ⟨k + n, h⟩).isLt
    rw [leValue_succ, Nat.pow_succ]
    have : (payloadView f ⟨k + n, h⟩).toNat * 256 ^ n ≤ 255 * 256 ^ n := Nat.mul_le_mul_right _ (by omega)
    omega

theorem extU8_toNat (f : Frame) (k : Offset 1) : (extU8 f k).toNat = leValue f k.val 1 (Offset.fits k (by decide)) := by
  rw [extU8, BitVec.toNat_ofNat]
  exact Nat.mod_eq_of_lt (leValue_lt f k.val 1 (Offset.fits k (by decide)))

theorem extU8_eq (f : Frame) (k : Offset 1) : extU8 f k = payloadView f k := by
  apply BitVec.eq_of_toNat_eq
  rw [extU8_toNat, leValue_one]

theorem extU16_toNat (f : Frame) (k : Offset 2) :
    (extU16 f k).toNat = leValue f k.val 2 (Offset.fits k (by decide)) := by
  rw [extU16, BitVec.toNat_ofNat]
  exact Nat.mod_eq_of_lt (leValue_lt f k.val 2 _)

theorem extU32_toNat (f : Frame) (k : Offset 4) :
    (extU32 f k).toNat = leValue f k.val 4 (Offset.fits k (by decide)) := by
  rw [extU32, BitVec.toNat_ofNat]
  exact Nat.mod_eq_of_lt (leValue_lt f k.val 4 _)

theorem sext16_eq (v : BitVec 16) : sext16 v = signedOf v.toNat := by
  have h := BitVec.msb_eq_decide v
  rw [BitVec.msb_eq_getLsbD_last] at h
  simp only [Nat.reduceSub] at h
  unfold sext16 signedOf
  rw [h]
  by_cases hv : v.toNat < 32768
  · simp [hv]
  · simp [hv]

theorem sext16_range (v : BitVec 16) : -32768 ≤ sext16 v ∧ sext16 v ≤ 32767 := by
  rw [sext16_eq, signedOf]
  have := v.isLt
  split <;> omega

theorem decSignedScaled_sound (f : Frame) (k : Offset 2) (d : Divisor) (u : UnitTag) :
    (decSignedScaled f k d u).sound d u = true := by
  have := sext16_range (extU16 f k)
  simp [Signal.sound, decSignedScaled, extS16, this]

theorem decAngularVelocity_sound (f : Frame) (k : Offset 2) :
    (decAngularVelocity f k).sound .unit .rpm = true := by
  have := sext16_range (extU16 f k)
  simp [Signal.sound, decAngularVelocity, extS16, this]

/-! ### The fault scan -/

theorem maskTest_eq (w : FaultWord) (i : Nat) : maskTest w i = w.getLsbD i := by
  unfold maskTest
  rw [← BitVec.twoPow_eq, BitVec.and_twoPow]
  cases h : w.getLsbD i
  · simp
  · have hi : i < 16 := BitVec.lt_of_getLsbD h
    simp only [if_true, ne_eq, decide_not, Bool.not_eq_eq_eq_not, Bool.not_true, decide_eq_false_iff_not]
    intro hz
    have := congrArg (fun v => BitVec.getLsbD v i) hz
    simp [hi] at this

/-- Bit i of the scan after n rounds. -/
theorem faultScan_getLsbD (lo hi : FaultWord) (i : Nat) (hi32 : i < 32) :
    ∀ n, (faultScan lo hi n).getLsbD i = (decide (i < n) && faultBit lo hi i)
  | 0 => by simp [faultScan]
  | n + 1 => by
    have ih := faultScan_getLsbD lo hi i hi32 n
    unfold faultScan
    by_cases hin : i = n
    · subst hin
      cases hb : faultBit lo hi i
      · simp [ih]
      · simp [hi32]
    · have hlt : (decide (i < n + 1)) = decide (i < n) := by
        by_cases h : i < n <;> simp [h] <;> omega
      rw [hlt]
      split
      · rw [BitVec.getLsbD_or, ih, ← BitVec.twoPow_eq, BitVec.getLsbD_twoPow]
        have : (decide (n = i)) = false := by simp; omega
        simp [this]
      · exact ih

end Sys2Proof.Machine
end

