-- ==== Sys2Proof/Laws/State.lean ====
section
/-! SUPPORT. One lemma per field per named update, so that no proof unfolds a record update. -/

namespace Sys2Proof.Machine

variable (f : Frame) (r : Record) (s : State)

/-! ### `latchFrame` -/

@[simp] theorem latchFrame_latch : (latchFrame f s).latch = f := rfl
@[simp] theorem latchFrame_pend : (latchFrame f s).pend = s.pend := rfl
@[simp] theorem latchFrame_refusalMark : (latchFrame f s).refusalMark = s.refusalMark := rfl
@[simp] theorem latchFrame_offered : (latchFrame f s).offered = none := rfl
@[simp] theorem latchFrame_sink : (latchFrame f s).sink = s.sink := rfl
@[simp] theorem latchFrame_delivered : (latchFrame f s).delivered = s.delivered := rfl
@[simp] theorem latchFrame_accepted : (latchFrame f s).accepted = s.accepted ++ [f] := rfl
@[simp] theorem latchFrame_turns : (latchFrame f s).turns = s.turns := rfl
@[simp] theorem latchFrame_freeDraw : (latchFrame f s).freeDraw = s.freeDraw := rfl

/-! ### `emit` -/

@[simp] theorem emit_latch : (emit r s).latch = s.latch := rfl
@[simp] theorem emit_pend : (emit r s).pend = some r := rfl
@[simp] theorem emit_refusalMark : (emit r s).refusalMark = s.refusalMark := rfl
@[simp] theorem emit_offered : (emit r s).offered = s.offered := rfl
@[simp] theorem emit_sink : (emit r s).sink = s.sink := rfl
@[simp] theorem emit_delivered : (emit r s).delivered = s.delivered := rfl
@[simp] theorem emit_accepted : (emit r s).accepted = s.accepted := rfl
@[simp] theorem emit_turns : (emit r s).turns = s.turns := rfl
@[simp] theorem emit_freeDraw : (emit r s).freeDraw = s.freeDraw := rfl

/-! ### `markRefusal` -/

@[simp] theorem markRefusal_latch : (markRefusal s).latch = s.latch := rfl
@[simp] theorem markRefusal_pend : (markRefusal s).pend = s.pend := rfl
@[simp] theorem markRefusal_refusalMark : (markRefusal s).refusalMark = true := rfl
@[simp] theorem markRefusal_offered : (markRefusal s).offered = s.offered := rfl
@[simp] theorem markRefusal_sink : (markRefusal s).sink = s.sink := rfl
@[simp] theorem markRefusal_delivered : (markRefusal s).delivered = s.delivered := rfl
@[simp] theorem markRefusal_accepted : (markRefusal s).accepted = s.accepted := rfl
@[simp] theorem markRefusal_turns : (markRefusal s).turns = s.turns := rfl
@[simp] theorem markRefusal_freeDraw : (markRefusal s).freeDraw = s.freeDraw := rfl

/-! ### `deliver` -/

@[simp] theorem deliver_latch : (deliver r s).latch = s.latch := rfl
@[simp] theorem deliver_pend : (deliver r s).pend = none := rfl
@[simp] theorem deliver_refusalMark : (deliver r s).refusalMark = s.refusalMark := rfl
@[simp] theorem deliver_offered : (deliver r s).offered = s.offered := rfl
@[simp] theorem deliver_sink : (deliver r s).sink = s.sink.afterDeliver := rfl
@[simp] theorem deliver_delivered : (deliver r s).delivered = s.delivered ++ [r] := rfl
@[simp] theorem deliver_accepted : (deliver r s).accepted = s.accepted := rfl
@[simp] theorem deliver_turns : (deliver r s).turns = s.turns := rfl
@[simp] theorem deliver_freeDraw : (deliver r s).freeDraw = s.freeDraw := rfl

/-! ### `resetBlock` -/

@[simp] theorem resetBlock_latch : (resetBlock s).latch = freeLatch s.freeDraw := rfl
@[simp] theorem resetBlock_pend : (resetBlock s).pend = none := rfl
@[simp] theorem resetBlock_refusalMark : (resetBlock s).refusalMark = false := rfl
@[simp] theorem resetBlock_offered : (resetBlock s).offered = none := rfl
@[simp] theorem resetBlock_sink : (resetBlock s).sink = s.sink := rfl
@[simp] theorem resetBlock_delivered : (resetBlock s).delivered = s.delivered := rfl
@[simp] theorem resetBlock_accepted : (resetBlock s).accepted = s.accepted := rfl
@[simp] theorem resetBlock_turns : (resetBlock s).turns = s.turns := rfl
@[simp] theorem resetBlock_freeDraw : (resetBlock s).freeDraw = s.freeDraw + 1 := rfl

end Sys2Proof.Machine
end

