-- ==== Sys2Proof/Laws/Ops.lean ====
section
/-! SUPPORT. Everything ACCEPT, an instruction, the block's move and a step can do, said once. -/

namespace Sys2Proof.Machine

/-! ### ACCEPT -/

theorem accept_of_pend_some {s : State} {r : Record} (h : s.pend = some r) (f : Frame)
    (dec : Frame → DecodeResult) : accept f dec s = .next s := by
  simp [accept, h]

theorem accept_of_pend_none {s : State} (h : s.pend = none) (f : Frame) (dec : Frame → DecodeResult) :
    accept f dec s = .next (applyResult (dec f) (latchFrame f s)) := by
  simp [accept, h]

/-- A result changes PEND or the mark and nothing else. -/
theorem applyResult_cases (res : DecodeResult) (s : State) :
    (∃ r, res = .record r ∧ applyResult res s = { s with pend := some r }) ∨
    (res = .dropped ∧ applyResult res s = s) ∨
    (res = .refused .lenRange ∧ applyResult res s = { s with refusalMark := true }) := by
  rcases res with r | _ | ⟨⟨⟩⟩
  · exact .inl ⟨r, rfl, rfl⟩
  · exact .inr (.inl ⟨rfl, rfl⟩)
  · exact .inr (.inr ⟨rfl, rfl⟩)

@[simp] theorem applyResult_latch (res : DecodeResult) (s : State) : (applyResult res s).latch = s.latch := by
  rcases res with r | _ | ⟨⟨⟩⟩ <;> rfl
@[simp] theorem applyResult_offered (res : DecodeResult) (s : State) :
    (applyResult res s).offered = s.offered := by
  rcases res with r | _ | ⟨⟨⟩⟩ <;> rfl
@[simp] theorem applyResult_sink (res : DecodeResult) (s : State) : (applyResult res s).sink = s.sink := by
  rcases res with r | _ | ⟨⟨⟩⟩ <;> rfl
@[simp] theorem applyResult_delivered (res : DecodeResult) (s : State) :
    (applyResult res s).delivered = s.delivered := by
  rcases res with r | _ | ⟨⟨⟩⟩ <;> rfl
@[simp] theorem applyResult_accepted (res : DecodeResult) (s : State) :
    (applyResult res s).accepted = s.accepted := by
  rcases res with r | _ | ⟨⟨⟩⟩ <;> rfl
@[simp] theorem applyResult_turns (res : DecodeResult) (s : State) : (applyResult res s).turns = s.turns := by
  rcases res with r | _ | ⟨⟨⟩⟩ <;> rfl
@[simp] theorem applyResult_freeDraw (res : DecodeResult) (s : State) :
    (applyResult res s).freeDraw = s.freeDraw := by
  rcases res with r | _ | ⟨⟨⟩⟩ <;> rfl

/-! ### Instructions -/

end Sys2Proof.Machine

namespace Sys2Proof

open Machine in
/-- The decode of an instruction's row, as its meaning in Machine/ hands it to ACCEPT. -/
def Instr.result : Instr → Frame → DecodeResult
  | .refuse _ _ _ => fun _ => .refused .lenRange
  | .fault _ _ => recordOf faultBody
  | .temps1 _ _ => recordOf temps1Body
  | .temps2 _ _ => recordOf temps2Body
  | .temps3 _ _ => recordOf temps3Body
  | .motorPosition _ _ => recordOf motorPositionBody
  | .currents _ _ => recordOf currentsBody
  | .voltages _ _ => recordOf voltagesBody
  | .internalStates _ _ => recordOf internalStatesBody
  | .torqueTimer _ _ => recordOf torqueTimerBody
  | .unhandled03 _ _ => recordOf (unhandledBody 0x03#6)
  | .unhandled04 _ _ => recordOf (unhandledBody 0x04#6)
  | .unhandled08_09 low _ _ => recordOf (unhandledBody (0x08#6 + low.setWidth 6))
  | .unhandled0D _ _ => recordOf (unhandledBody 0x0D#6)
  | .unhandled0E_0F low _ _ => recordOf (unhandledBody (0x0E#6 + low.setWidth 6))
  | .unhandled10_1F low _ _ => recordOf (unhandledBody (0x10#6 + low.setWidth 6))
  | .unhandled20_2F low _ _ => recordOf (unhandledBody (0x20#6 + low.setWidth 6))
  | .drop _ _ _ => fun _ => .dropped

end Sys2Proof

namespace Sys2Proof.Machine

/-- Every meaning is ACCEPT of the instruction's own frame with its row's decode. -/
theorem exec_eq_accept (i : Instr) (s : State) : exec i s = accept (encodeFrame i) i.result s := by
  cases i <;> rfl

theorem exec_of_pend_some {s : State} {r : Record} (h : s.pend = some r) (i : Instr) :
    exec i s = .next s := by
  rw [exec_eq_accept, accept_of_pend_some h]

theorem exec_of_pend_none {s : State} (h : s.pend = none) (i : Instr) :
    exec i s = .next (applyResult (i.result (encodeFrame i)) (latchFrame (encodeFrame i) s)) := by
  rw [exec_eq_accept, accept_of_pend_none h]

/-! ### The block's move and a step -/

theorem tryDeliver_hold {s : State} (h : s.sink = .hold) (r : Record) : tryDeliver r s = s := by
  simp [tryDeliver, h]

theorem tryDeliver_ready {s : State} (h : s.sink ≠ .hold) (r : Record) : tryDeliver r s = deliver r s := by
  unfold tryDeliver
  split <;> simp_all

theorem blockStep_pend_some {s : State} {r : Record} (h : s.pend = some r) :
    blockStep s = .next (tryDeliver r s) := by
  simp [blockStep, h]

theorem blockStep_accepts {s : State} {f : Frame} (h : s.pend = none) (ho : s.offered = some f) :
    blockStep s = exec (decodeFrame f) s := by
  simp [blockStep, h, ho]

theorem blockStep_idle {s : State} (h : s.pend = none) (ho : s.offered = none) : blockStep s = .next s := by
  simp [blockStep, h, ho]

/-- A step is the host's move at the head of the schedule, or the block's move with the head's `block` turn, if
there is one, used up. -/
theorem step_cases (s : State) :
    (∃ m rest, s.turns = .host m :: rest ∧ hostMayMove m s = true ∧ s.hostTurn = some m ∧
      step s = .next (hostMove m { s with turns := rest })) ∨
    (s.hostTurn = none ∧ ∃ ts, step s = blockStep { s with turns := ts }) := by
  unfold State.hostTurn step
  rcases ht : s.turns with _ | ⟨_ | _, rest⟩
  · refine .inr ⟨rfl, [], ?_⟩
    simp only
    rw [← ht]
  · rename_i m
    by_cases hm : hostMayMove m s = true
    · exact .inl ⟨m, rest, rfl, hm, by simp [hm], by simp [hm]⟩
    · refine .inr ⟨by simp [hm], s.turns, ?_⟩
      simp [hm]
  · exact .inr ⟨rfl, rest, rfl⟩


/-! ### Runs -/

theorem stepN_succ {s t : State} (h : step s = .next t) (n : Nat) : stepN (n + 1) s = stepN n t := by
  simp [stepN, h]

/-- `stepN` is the host's own run of the machine. -/
theorem core_run_eq_stepN : ∀ (n : Nat) (s : State), core.run n s = stepN n s
  | 0, _ => rfl
  | n + 1, s => by
    refine (Host.Core.run.eq_2 core s n).trans ?_
    have e : core.step s = step s := rfl
    unfold stepN
    rw [e]
    cases step s with
    | next t => exact core_run_eq_stepN n t
    | fault r => rfl
    | refused r => rfl

end Sys2Proof.Machine
end

