-- ==== Sys2Proof/Laws/PerInstr.lean ====
section
/-! SUPPORT. Laws about every instruction as syntax, one lemma per constructor. -/

namespace Sys2Proof.Laws.RowMatch

/-- The frame of a well-formed instruction matches its own row of the opcode table: pattern, mask and length
column (30_encoding.md R87). -/
def Statement (i : Instr) : Prop :=
  i.wellFormed = true → ∃ r ∈ opcodeTable, r.op = i.opcode ∧ r.applies (encodeFrame i) = true

/-- A row with a legal length, from the identifier of the instruction's frame. -/
theorem of_row (r : OpcodeRow) (id : CanId) {i : Instr} {len : Len} {data : Payload}
    (hf : encodeFrame i = ⟨id, len, data⟩) (hid : id &&& r.mask = r.pattern) (hr : r ∈ opcodeTable)
    (hop : r.op = i.opcode) (hlong : r.long = false) (hw : i.wellFormed = Len.legal len) : Statement i := fun h =>
  ⟨r, hr, hop, (r.applies_iff _).mpr
    ⟨by rw [hf]; exact hid, by rw [hlong, hf, lenTooLong_eq_not_legal, ← hw, h]; rfl⟩⟩

theorem refuse (id : CanId) (len : Len) (data : Payload) : Statement (.refuse id len data) := fun h =>
  ⟨⟨.refuse, 0#32, 0#32, 0, true⟩, by decide, rfl, (OpcodeRow.applies_iff _ _).mpr
    ⟨BitVec.and_zero, by rw [lenTooLong_eq_not_legal]; exact h.symm⟩⟩

theorem fault (len : Len) (data : Payload) : Statement (.fault len data) :=
  of_row ⟨.fault, 0xAB#32, 0xFFFFFFFF#32, 1, false⟩ Config.faultId rfl (by decide) (by decide) rfl rfl rfl

theorem temps1 (len : Len) (data : Payload) : Statement (.temps1 len data) :=
  of_row ⟨.temps1, 0xA0#32, 0xFFFFFFFF#32, 2, false⟩ (Config.baseId + (0x00#6).setWidth 32) rfl (by decide) (by decide) rfl rfl rfl

theorem temps2 (len : Len) (data : Payload) : Statement (.temps2 len data) :=
  of_row ⟨.temps2, 0xA1#32, 0xFFFFFFFF#32, 3, false⟩ (Config.baseId + (0x01#6).setWidth 32) rfl (by decide) (by decide) rfl rfl rfl

theorem temps3 (len : Len) (data : Payload) : Statement (.temps3 len data) :=
  of_row ⟨.temps3, 0xA2#32, 0xFFFFFFFF#32, 4, false⟩ (Config.baseId + (0x02#6).setWidth 32) rfl (by decide) (by decide) rfl rfl rfl

theorem motorPosition (len : Len) (data : Payload) : Statement (.motorPosition len data) :=
  of_row ⟨.motorPosition, 0xA5#32, 0xFFFFFFFF#32, 5, false⟩ (Config.baseId + (0x05#6).setWidth 32) rfl (by decide) (by decide) rfl rfl rfl

theorem currents (len : Len) (data : Payload) : Statement (.currents len data) :=
  of_row ⟨.currents, 0xA6#32, 0xFFFFFFFF#32, 6, false⟩ (Config.baseId + (0x06#6).setWidth 32) rfl (by decide) (by decide) rfl rfl rfl

theorem voltages (len : Len) (data : Payload) : Statement (.voltages len data) :=
  of_row ⟨.voltages, 0xA7#32, 0xFFFFFFFF#32, 7, false⟩ (Config.baseId + (0x07#6).setWidth 32) rfl (by decide) (by decide) rfl rfl rfl

theorem internalStates (len : Len) (data : Payload) : Statement (.internalStates len data) :=
  of_row ⟨.internalStates, 0xAA#32, 0xFFFFFFFF#32, 8, false⟩ (Config.baseId + (0x0A#6).setWidth 32) rfl (by decide) (by decide) rfl rfl rfl

theorem torqueTimer (len : Len) (data : Payload) : Statement (.torqueTimer len data) :=
  of_row ⟨.torqueTimer, 0xAC#32, 0xFFFFFFFF#32, 9, false⟩ (Config.baseId + (0x0C#6).setWidth 32) rfl (by decide) (by decide) rfl rfl rfl

theorem unhandled03 (len : Len) (data : Payload) : Statement (.unhandled03 len data) :=
  of_row ⟨.unhandled03, 0xA3#32, 0xFFFFFFFF#32, 10, false⟩ (Config.baseId + (0x03#6).setWidth 32) rfl (by decide) (by decide) rfl rfl rfl

theorem unhandled04 (len : Len) (data : Payload) : Statement (.unhandled04 len data) :=
  of_row ⟨.unhandled04, 0xA4#32, 0xFFFFFFFF#32, 11, false⟩ (Config.baseId + (0x04#6).setWidth 32) rfl (by decide) (by decide) rfl rfl rfl

theorem unhandled08_09 (low : BitVec 1) (len : Len) (data : Payload) : Statement (.unhandled08_09 low len data) :=
  of_row ⟨.unhandled08_09, 0xA8#32, 0xFFFFFFFE#32, 12, false⟩ (Config.baseId + (0x08#6 + low.setWidth 6).setWidth 32) rfl (by revert low; decide) (by decide) rfl rfl rfl

theorem unhandled0D (len : Len) (data : Payload) : Statement (.unhandled0D len data) :=
  of_row ⟨.unhandled0D, 0xAD#32, 0xFFFFFFFF#32, 13, false⟩ (Config.baseId + (0x0D#6).setWidth 32) rfl (by decide) (by decide) rfl rfl rfl

theorem unhandled0E_0F (low : BitVec 1) (len : Len) (data : Payload) : Statement (.unhandled0E_0F low len data) :=
  of_row ⟨.unhandled0E_0F, 0xAE#32, 0xFFFFFFFE#32, 14, false⟩ (Config.baseId + (0x0E#6 + low.setWidth 6).setWidth 32) rfl (by revert low; decide) (by decide) rfl rfl rfl

theorem unhandled10_1F (low : BitVec 4) (len : Len) (data : Payload) : Statement (.unhandled10_1F low len data) :=
  of_row ⟨.unhandled10_1F, 0xB0#32, 0xFFFFFFF0#32, 15, false⟩ (Config.baseId + (0x10#6 + low.setWidth 6).setWidth 32) rfl (by revert low; decide) (by decide) rfl rfl rfl

theorem unhandled20_2F (low : BitVec 4) (len : Len) (data : Payload) : Statement (.unhandled20_2F low len data) :=
  of_row ⟨.unhandled20_2F, 0xC0#32, 0xFFFFFFF0#32, 16, false⟩ (Config.baseId + (0x20#6 + low.setWidth 6).setWidth 32) rfl (by revert low; decide) (by decide) rfl rfl rfl

theorem drop (id : CanId) (len : Len) (data : Payload) : Statement (.drop id len data) := fun h =>
  ⟨⟨.drop, 0#32, 0#32, 99, false⟩, by decide, rfl, (OpcodeRow.applies_iff _ _).mpr
    ⟨BitVec.and_zero, by
      simp only [Instr.wellFormed, Bool.and_eq_true] at h
      simp [lenTooLong_eq_not_legal, encodeFrame, h.1.1]⟩⟩

end Sys2Proof.Laws.RowMatch
end

