-- ==== Sys2Proof/Tests/Slice0.lean ====
section
/-! SUPPORT. The model's own tests. Expected results come from spec/95_test_vectors.md (the vector is named) or, where
none is named, from the rule named; none is the model's own output. The last part shows, for every statement with
hypotheses, values that meet all of them. -/

namespace Sys2Proof.Tests

open Sys2Proof Sys2Proof.Machine

/-! ### Helpers -/

/-- Eight zero bytes. -/
def noData : Payload := ⟨0#8, 0#8, 0#8, 0#8, 0#8, 0#8, 0#8, 0#8⟩

/-- The machine after reset with a frame on the inbound channel. -/
def offering (id : CanId) (len : Len) (data : Payload) : State :=
  { State.reset with offered := some ⟨id, len, data⟩ }

/-- The next state, if there is one. -/
def nextState : Host.Outcome State Fault Refusal → Option State
  | .next t => some t
  | .fault _ => none
  | .refused _ => none

theorem eq_next {o : Host.Outcome State Fault Refusal} {t : State} (h : nextState o = some t) : o = .next t := by
  cases o <;> simp_all [nextState]

/-- The record one step leaves in PEND, for a frame offered after reset. -/
def recordOfFrame (id : CanId) (len : Len) (data : Payload) : Option (Option Record) :=
  (nextState (step (offering id len data))).map State.pend

/-- The refusal mark one step leaves, for a frame offered after reset. -/
def markOfFrame (id : CanId) (len : Len) (data : Payload) : Option Bool :=
  (nextState (step (offering id len data))).map State.refusalMark

/-- A signal. -/
def sig (raw : Int) (d : Divisor) (u : UnitTag) : Signal := ⟨raw, d, u⟩

/-! ### WellFormed refuses an ill-formed term at each check -/

theorem test_ill_formed_fault_len_9 : (Instr.fault 9#4 noData).wellFormed = false := by decide
theorem test_ill_formed_temps1_len_9 : (Instr.temps1 9#4 noData).wellFormed = false := by decide
theorem test_ill_formed_temps2_len_9 : (Instr.temps2 9#4 noData).wellFormed = false := by decide
theorem test_ill_formed_temps3_len_9 : (Instr.temps3 9#4 noData).wellFormed = false := by decide
theorem test_ill_formed_motorPosition_len_9 : (Instr.motorPosition 9#4 noData).wellFormed = false := by decide
theorem test_ill_formed_currents_len_9 : (Instr.currents 9#4 noData).wellFormed = false := by decide
theorem test_ill_formed_voltages_len_9 : (Instr.voltages 9#4 noData).wellFormed = false := by decide
theorem test_ill_formed_internalStates_len_9 : (Instr.internalStates 9#4 noData).wellFormed = false := by decide
theorem test_ill_formed_torqueTimer_len_9 : (Instr.torqueTimer 9#4 noData).wellFormed = false := by decide
theorem test_ill_formed_unhandled03_len_9 : (Instr.unhandled03 9#4 noData).wellFormed = false := by decide
theorem test_ill_formed_unhandled04_len_9 : (Instr.unhandled04 9#4 noData).wellFormed = false := by decide
theorem test_ill_formed_unhandled0D_len_9 : (Instr.unhandled0D 9#4 noData).wellFormed = false := by decide
theorem test_ill_formed_unhandled08_09_len_9 : (Instr.unhandled08_09 1#1 9#4 noData).wellFormed = false := by decide
theorem test_ill_formed_unhandled0E_0F_len_9 : (Instr.unhandled0E_0F 1#1 9#4 noData).wellFormed = false := by decide
theorem test_ill_formed_unhandled10_1F_len_9 : (Instr.unhandled10_1F 15#4 9#4 noData).wellFormed = false := by decide
theorem test_ill_formed_unhandled20_2F_len_9 : (Instr.unhandled20_2F 15#4 9#4 noData).wellFormed = false := by decide
theorem test_ill_formed_refuse_len_8 : (Instr.refuse 0xA7#32 8#4 noData).wellFormed = false := by decide
theorem test_ill_formed_drop_len_9 : (Instr.drop 0xD0#32 9#4 noData).wellFormed = false := by decide
theorem test_ill_formed_drop_in_range : (Instr.drop 0xCF#32 8#4 noData).wellFormed = false ∧
    (Instr.drop 0xA0#32 8#4 noData).wellFormed = false := by decide
theorem test_ill_formed_drop_fault_id : (Instr.drop 0xAB#32 8#4 noData).wellFormed = false := by decide

/-! ### Decoding words written out from the spec: DATA64, LEN, ID (R70, R54) -/

/-- P4 step 2. -/
theorem test_decode_temps1 :
    decode (0xFFF601400136012C#64 ++ 0x8#4 ++ 0x000000A0#32) = .temps1 8#4 ⟨0x2C#8, 0x01#8, 0x36#8, 0x01#8, 0x40#8, 0x01#8, 0xF6#8, 0xFF#8⟩ := by decide
/-- P4 step 3. -/
theorem test_decode_temps2 :
    decode (0x00000000000000C8#64 ++ 0x8#4 ++ 0x000000A1#32) = .temps2 8#4 ⟨0xC8#8, 0x00#8, 0x00#8, 0x00#8, 0x00#8, 0x00#8, 0x00#8, 0x00#8⟩ := by decide
/-- P4 step 7. -/
theorem test_decode_temps3 :
    decode (0xFF9C00FA01F40190#64 ++ 0x8#4 ++ 0x000000A2#32) = .temps3 8#4 ⟨0x90#8, 0x01#8, 0xF4#8, 0x01#8, 0xFA#8, 0x00#8, 0x9C#8, 0xFF#8⟩ := by decide
/-- P3 step 2. -/
theorem test_decode_motorPosition :
    decode (0x000501F405DC0E10#64 ++ 0x8#4 ++ 0x000000A5#32) = .motorPosition 8#4 ⟨0x10#8, 0x0E#8, 0xDC#8, 0x05#8, 0xF4#8, 0x01#8, 0x05#8, 0x00#8⟩ := by decide
/-- P3 step 4. -/
theorem test_decode_currents :
    decode (0x00320000FF9C0064#64 ++ 0x8#4 ++ 0x000000A6#32) = .currents 8#4 ⟨0x64#8, 0x00#8, 0x9C#8, 0xFF#8, 0x00#8, 0x00#8, 0x32#8, 0x00#8⟩ := by decide
/-- P2 step 4. -/
theorem test_decode_voltages :
    decode (0xFFEEDDCCBBAA01F4#64 ++ 0x2#4 ++ 0x000000A7#32) = .voltages 2#4 ⟨0xF4#8, 0x01#8, 0xAA#8, 0xBB#8, 0xCC#8, 0xDD#8, 0xEE#8, 0xFF#8⟩ := by decide
/-- P1 step 3. -/
theorem test_decode_internalStates :
    decode (0x0000000001030A06#64 ++ 0x8#4 ++ 0x000000AA#32) = .internalStates 8#4 ⟨0x06#8, 0x0A#8, 0x03#8, 0x01#8, 0x00#8, 0x00#8, 0x00#8, 0x00#8⟩ := by decide
/-- P1 step 5. -/
theorem test_decode_torqueTimer :
    decode (0x000003E803DE03E8#64 ++ 0x8#4 ++ 0x000000AC#32) = .torqueTimer 8#4 ⟨0xE8#8, 0x03#8, 0xDE#8, 0x03#8, 0xE8#8, 0x03#8, 0x00#8, 0x00#8⟩ := by decide
/-- P2 step 1. -/
theorem test_decode_fault :
    decode (0x0001000080008001#64 ++ 0x8#4 ++ 0x000000AB#32) = .fault 8#4 ⟨0x01#8, 0x80#8, 0x00#8, 0x80#8, 0x00#8, 0x00#8, 0x01#8, 0x00#8⟩ := by decide
/-- P4 step 6. -/
theorem test_decode_refuse :
    decode (0x00000000000001F4#64 ++ 0x9#4 ++ 0x000000A7#32) = .refuse 0xA7#32 9#4 ⟨0xF4#8, 0x01#8, 0x00#8, 0x00#8, 0x00#8, 0x00#8, 0x00#8, 0x00#8⟩ := by decide
/-- P5 step 6. -/
theorem test_decode_drop_high_bits :
    decode (0x00000000000001F4#64 ++ 0x8#4 ++ 0x100000A7#32) = .drop 0x100000A7#32 8#4 ⟨0xF4#8, 0x01#8, 0x00#8, 0x00#8, 0x00#8, 0x00#8, 0x00#8, 0x00#8⟩ := by decide
/-- P5 step 1. -/
theorem test_decode_drop_below :
    decode (0x0000000000000000#64 ++ 0x8#4 ++ 0x0000009F#32) = .drop 0x9F#32 8#4 noData := by decide
/-- P5 step 5. -/
theorem test_decode_drop_above :
    decode (0x0000000000000000#64 ++ 0x8#4 ++ 0x000000D0#32) = .drop 0xD0#32 8#4 noData := by decide
/-- D-22. -/
theorem test_decode_unhandled03 :
    decode (0x0000000000000000#64 ++ 0x8#4 ++ 0x000000A3#32) = .unhandled03 8#4 noData := by decide
/-- D-23. -/
theorem test_decode_unhandled04 :
    decode (0x0000000000000000#64 ++ 0x0#4 ++ 0x000000A4#32) = .unhandled04 0#4 noData := by decide
/-- D-24. -/
theorem test_decode_unhandled08 :
    decode (0x0000000000000000#64 ++ 0x8#4 ++ 0x000000A8#32) = .unhandled08_09 0#1 8#4 noData := by decide
/-- D-24. -/
theorem test_decode_unhandled09 :
    decode (0x0000000000000000#64 ++ 0x8#4 ++ 0x000000A9#32) = .unhandled08_09 1#1 8#4 noData := by decide
/-- D-24. -/
theorem test_decode_unhandled0D :
    decode (0x0000000000000000#64 ++ 0x8#4 ++ 0x000000AD#32) = .unhandled0D 8#4 noData := by decide
/-- D-24. -/
theorem test_decode_unhandled0E :
    decode (0x0000000000000000#64 ++ 0x8#4 ++ 0x000000AE#32) = .unhandled0E_0F 0#1 8#4 noData := by decide
/-- D-24. -/
theorem test_decode_unhandled0F :
    decode (0x0000000000000000#64 ++ 0x8#4 ++ 0x000000AF#32) = .unhandled0E_0F 1#1 8#4 noData := by decide
/-- D-24. -/
theorem test_decode_unhandled10 :
    decode (0x0000000000000000#64 ++ 0x8#4 ++ 0x000000B0#32) = .unhandled10_1F 0#4 8#4 noData := by decide
/-- D-24. -/
theorem test_decode_unhandled1F :
    decode (0x0000000000000000#64 ++ 0x8#4 ++ 0x000000BF#32) = .unhandled10_1F 15#4 8#4 noData := by decide
/-- P2 step 2. -/
theorem test_decode_unhandled20 :
    decode (0x0000000000000000#64 ++ 0x8#4 ++ 0x000000C0#32) = .unhandled20_2F 0#4 8#4 noData := by decide
/-- P5 step 4. -/
theorem test_decode_unhandled2F :
    decode (0x0000000000000000#64 ++ 0x8#4 ++ 0x000000CF#32) = .unhandled20_2F 15#4 8#4 noData := by decide

/-- P2 step 4, the other way: the encoder's word. -/
theorem test_encode_voltages :
    encode (.voltages 2#4 ⟨0xF4#8, 0x01#8, 0xAA#8, 0xBB#8, 0xCC#8, 0xDD#8, 0xEE#8, 0xFF#8⟩) =
      (0xFFEEDDCCBBAA01F4#64 ++ 0x2#4 ++ 0x000000A7#32) := by decide
/-- Log 1: the frame's 13 bytes, ID lowest, and a rest that stays. -/
theorem test_decodeBytes_voltages :
    decodeBytes [0xA7#8, 0x00#8, 0x00#8, 0x00#8, 0x82#8, 0x04#8, 0x00#8, 0x00#8, 0x00#8, 0x00#8, 0x00#8, 0x00#8, 0x00#8,
      0x55#8] = .ok (.voltages 2#4 ⟨0x48#8, 0#8, 0#8, 0#8, 0#8, 0#8, 0#8, 0#8⟩, [0x55#8]) := by decide
theorem test_decodeBytes_truncated : decodeBytes [0xA7#8, 0x00#8] = .error .truncated := by decide
theorem test_decodeBytes_padding :
    decodeBytes [0xA7#8, 0#8, 0#8, 0#8, 0#8, 0#8, 0#8, 0#8, 0#8, 0#8, 0#8, 0#8, 0x10#8] = .error .padding := by decide

/-! ### Written frames -/

/-- R86's example, read and written. -/
def exampleLine : List Char :=
  ['F', 'R', 'A', 'M', 'E', ' ', '0', 'x', '0', 'A', '7', ' ', 'l', 'e', 'n', '=', '8', ' ', 'd', 'a', 't', 'a', '=', 'F'] ++
  ['4', ':', '0', '1', ':', '0', '0', ':', '0', '0', ':', '0', '0', ':', '0', '0', ':', '0', '0', ':', '0', '0']
theorem test_readFrame_example :
    readFrame exampleLine = some ⟨0xA7#32, 8#4, ⟨0xF4#8, 1#8, 0#8, 0#8, 0#8, 0#8, 0#8, 0#8⟩⟩ := by decide
theorem test_writeFrame_example :
    writeFrame ⟨0xA7#32, 8#4, ⟨0xF4#8, 1#8, 0#8, 0#8, 0#8, 0#8, 0#8, 0#8⟩⟩ = exampleLine := by decide
theorem test_readFrame_seven_bytes : readFrame (exampleLine.take 43) = none := by decide
theorem test_readProgram_two_lines :
    (readProgram (exampleLine ++ ['\n'] ++ exampleLine)).map List.length = some 2 := by decide

/-! ### The host's probes -/

theorem test_decodeTableWord_id_only : decodeTableWord 32 0xA7 = some (.voltages 0#4 noData) := by decide
theorem test_decodeTableWord_whole_frame :
    decodeTableWord 100 0x000000000000000089000000A7 = some (.refuse 0xA7#32 9#4 ⟨8#8, 0#8, 0#8, 0#8, 0#8, 0#8, 0#8, 0#8⟩) := by
  decide
theorem test_withFetchWord_runs_the_instruction :
    nextState (step (State.reset.withFetchWord 32 0xA3)) =
      nextState (exec (.unhandled03 0#4 noData) (offering 0xA3#32 0#4 noData)) := by decide

/-! ### One step per instruction -/

/-- D-1. -/
theorem test_temps1 :
    recordOfFrame 0xA0#32 8#4 ⟨0x2C#8, 0x01#8, 0x36#8, 0x01#8, 0x40#8, 0x01#8, 0xF6#8, 0xFF#8⟩ =
      some (some ⟨false, .temps1 ⟨sig 300 .std .degc, sig 310 .std .degc, sig 320 .std .degc, sig (-10) .std .degc⟩⟩) := by decide
/-- D-3. -/
theorem test_temps1_extremes :
    recordOfFrame 0xA0#32 8#4 ⟨0x00#8, 0x80#8, 0xFF#8, 0x7F#8, 0xFF#8, 0xFF#8, 0x00#8, 0x00#8⟩ =
      some (some ⟨false, .temps1 ⟨sig (-32768) .std .degc, sig 32767 .std .degc, sig (-1) .std .degc, sig 0 .std .degc⟩⟩) := by decide
/-- D-4. -/
theorem test_temps2 :
    recordOfFrame 0xA1#32 8#4 ⟨0xC8#8, 0x00#8, 0x00#8, 0x00#8, 0x00#8, 0x00#8, 0x00#8, 0x00#8⟩ =
      some (some ⟨false, .temps2 ⟨sig 200 .std .degc, sig 0 .std .degc, sig 0 .std .degc, sig 0 .std .degc⟩⟩) := by decide
/-- D-5. -/
theorem test_temps2_len_0 :
    recordOfFrame 0xA1#32 0#4 ⟨0xC8#8, 0x00#8, 0x00#8, 0x00#8, 0x00#8, 0x00#8, 0x00#8, 0x00#8⟩ =
      some (some ⟨true, .temps2 ⟨sig 0 .std .degc, sig 0 .std .degc, sig 0 .std .degc, sig 0 .std .degc⟩⟩) := by decide
/-- D-6. -/
theorem test_temps3 :
    recordOfFrame 0xA2#32 8#4 ⟨0x90#8, 0x01#8, 0xF4#8, 0x01#8, 0xFA#8, 0x00#8, 0x9C#8, 0xFF#8⟩ =
      some (some ⟨false, .temps3 ⟨sig 400 .std .degc, sig 500 .std .degc, sig 250 .std .degc, sig (-100) .std .nm⟩⟩) := by decide
/-- D-7. -/
theorem test_motorPosition :
    recordOfFrame 0xA5#32 8#4 ⟨0x10#8, 0x0E#8, 0xDC#8, 0x05#8, 0xF4#8, 0x01#8, 0x05#8, 0x00#8⟩ =
      some (some ⟨false, .motorPosition ⟨sig 3600 .std .deg, sig 1500 .unit .rpm, sig 500 .std .hz, sig 5 .std .deg⟩⟩) := by decide
/-- D-8. -/
theorem test_motorPosition_signed :
    recordOfFrame 0xA5#32 8#4 ⟨0x00#8, 0x80#8, 0x30#8, 0xF8#8, 0xFF#8, 0x7F#8, 0x01#8, 0x00#8⟩ =
      some (some ⟨false, .motorPosition ⟨sig (-32768) .std .deg, sig (-2000) .unit .rpm, sig 32767 .std .hz, sig 1 .std .deg⟩⟩) := by decide
/-- D-9. -/
theorem test_currents :
    recordOfFrame 0xA6#32 8#4 ⟨0x64#8, 0x00#8, 0x9C#8, 0xFF#8, 0x00#8, 0x00#8, 0x32#8, 0x00#8⟩ =
      some (some ⟨false, .currents ⟨sig 100 .std .a, sig (-100) .std .a, sig 0 .std .a, sig 50 .std .a⟩⟩) := by decide
/-- D-10. -/
theorem test_voltages :
    recordOfFrame 0xA7#32 8#4 ⟨0x48#8, 0x0D#8, 0x64#8, 0x00#8, 0x38#8, 0xFF#8, 0xC8#8, 0x00#8⟩ =
      some (some ⟨false, .voltages ⟨sig 3400 .std .v, sig 100 .std .v, sig (-200) .std .v, sig 200 .std .v⟩⟩) := by decide
/-- D-11. -/
theorem test_voltages_len_2 :
    recordOfFrame 0xA7#32 2#4 ⟨0xF4#8, 0x01#8, 0xAA#8, 0xBB#8, 0xCC#8, 0xDD#8, 0xEE#8, 0xFF#8⟩ =
      some (some ⟨true, .voltages ⟨sig 500 .std .v, sig 0 .std .v, sig 0 .std .v, sig 0 .std .v⟩⟩) := by decide
/-- D-13. -/
theorem test_internalStates_len_3 :
    recordOfFrame 0xAA#32 3#4 ⟨0x0A#8, 0x00#8, 0x09#8, 0x55#8, 0x00#8, 0x00#8, 0x00#8, 0x00#8⟩ =
      some (some ⟨true, .internalStates ⟨10#8, .UNKNOWN, 0#8, 9#8, .IDLE_STOP, 0#8⟩⟩) := by decide
/-- D-15. -/
theorem test_internalStates_len_4 :
    recordOfFrame 0xAA#32 4#4 ⟨0x10#8, 0xFF#8, 0x05#8, 0xA5#8, 0x00#8, 0x00#8, 0x00#8, 0x00#8⟩ =
      some (some ⟨false, .internalStates ⟨16#8, .UNKNOWN, 255#8, 5#8, .UNKNOWN, 0xA5#8⟩⟩) := by decide
/-- D-19. -/
theorem test_torqueTimer_unsigned_ticks :
    recordOfFrame 0xAC#32 8#4 ⟨0x18#8, 0xFC#8, 0x00#8, 0x00#8, 0xFF#8, 0xFF#8, 0xFF#8, 0xFF#8⟩ =
      some (some ⟨false, .torqueTimer ⟨sig (-1000) .std .nm, sig 0 .std .nm, 4294967295#32, ⟨12884901885, 1000, .s⟩⟩⟩) := by decide
/-- D-20. -/
theorem test_torqueTimer_len_6 :
    recordOfFrame 0xAC#32 6#4 ⟨0x00#8, 0x00#8, 0x00#8, 0x00#8, 0xE8#8, 0x03#8, 0x12#8, 0x34#8⟩ =
      some (some ⟨true, .torqueTimer ⟨sig 0 .std .nm, sig 0 .std .nm, 1000#32, ⟨3000, 1000, .s⟩⟩⟩) := by decide
/-- F-1. -/
theorem test_fault :
    recordOfFrame 0xAB#32 8#4 ⟨0x01#8, 0x80#8, 0x00#8, 0x80#8, 0x00#8, 0x00#8, 0x01#8, 0x00#8⟩ =
      some (some ⟨false, .fault ⟨0x8001#16, 0x8000#16, 0x0000#16, 0x0001#16, 0x80008001#32, 0x00010000#32,
        [.GATE_DESAT, .SENSE_12V_HIGH, .BRAKE_OPEN], [.SENSE_2V5_LOW]⟩⟩) := by decide
/-- F-9. -/
theorem test_fault_len_7 :
    recordOfFrame 0xAB#32 7#4 ⟨0x00#8, 0x00#8, 0x00#8, 0x00#8, 0x00#8, 0x00#8, 0x01#8, 0x80#8⟩ =
      some (some ⟨true, .fault ⟨0#16, 0#16, 0#16, 1#16, 0#32, 0x00010000#32, [], [.SENSE_2V5_LOW]⟩⟩) := by decide
/-- D-22. -/
theorem test_unhandled03 :
    recordOfFrame 0xA3#32 8#4 ⟨0xAA#8, 0xAA#8, 0xAA#8, 0xAA#8, 0xAA#8, 0xAA#8, 0xAA#8, 0xAA#8⟩ =
      some (some ⟨false, .unhandled ⟨0x03#6⟩⟩) := by decide
/-- D-23. -/
theorem test_unhandled04 :
    recordOfFrame 0xA4#32 0#4 ⟨0xAA#8, 0xAA#8, 0xAA#8, 0xAA#8, 0xAA#8, 0xAA#8, 0xAA#8, 0xAA#8⟩ =
      some (some ⟨false, .unhandled ⟨0x04#6⟩⟩) := by decide
/-- D-24. -/
theorem test_unhandled08 :
    recordOfFrame 0xA8#32 8#4 ⟨0xAA#8, 0xAA#8, 0xAA#8, 0xAA#8, 0xAA#8, 0xAA#8, 0xAA#8, 0xAA#8⟩ =
      some (some ⟨false, .unhandled ⟨0x08#6⟩⟩) := by decide
/-- D-24. -/
theorem test_unhandled09 :
    recordOfFrame 0xA9#32 8#4 ⟨0xAA#8, 0xAA#8, 0xAA#8, 0xAA#8, 0xAA#8, 0xAA#8, 0xAA#8, 0xAA#8⟩ =
      some (some ⟨false, .unhandled ⟨0x09#6⟩⟩) := by decide
/-- D-24. -/
theorem test_unhandled0D :
    recordOfFrame 0xAD#32 8#4 ⟨0xAA#8, 0xAA#8, 0xAA#8, 0xAA#8, 0xAA#8, 0xAA#8, 0xAA#8, 0xAA#8⟩ =
      some (some ⟨false, .unhandled ⟨0x0D#6⟩⟩) := by decide
/-- D-24. -/
theorem test_unhandled0E :
    recordOfFrame 0xAE#32 8#4 ⟨0xAA#8, 0xAA#8, 0xAA#8, 0xAA#8, 0xAA#8, 0xAA#8, 0xAA#8, 0xAA#8⟩ =
      some (some ⟨false, .unhandled ⟨0x0E#6⟩⟩) := by decide
/-- D-24. -/
theorem test_unhandled0F :
    recordOfFrame 0xAF#32 8#4 ⟨0xAA#8, 0xAA#8, 0xAA#8, 0xAA#8, 0xAA#8, 0xAA#8, 0xAA#8, 0xAA#8⟩ =
      some (some ⟨false, .unhandled ⟨0x0F#6⟩⟩) := by decide
/-- D-24. -/
theorem test_unhandled10 :
    recordOfFrame 0xB0#32 8#4 ⟨0xAA#8, 0xAA#8, 0xAA#8, 0xAA#8, 0xAA#8, 0xAA#8, 0xAA#8, 0xAA#8⟩ =
      some (some ⟨false, .unhandled ⟨0x10#6⟩⟩) := by decide
/-- D-24. -/
theorem test_unhandled1F :
    recordOfFrame 0xBF#32 8#4 ⟨0xAA#8, 0xAA#8, 0xAA#8, 0xAA#8, 0xAA#8, 0xAA#8, 0xAA#8, 0xAA#8⟩ =
      some (some ⟨false, .unhandled ⟨0x1F#6⟩⟩) := by decide
/-- O-6. -/
theorem test_unhandled20 :
    recordOfFrame 0xC0#32 0#4 ⟨0xAA#8, 0xAA#8, 0xAA#8, 0xAA#8, 0xAA#8, 0xAA#8, 0xAA#8, 0xAA#8⟩ =
      some (some ⟨false, .unhandled ⟨0x20#6⟩⟩) := by decide
/-- D-25. -/
theorem test_unhandled2F :
    recordOfFrame 0xCF#32 8#4 ⟨0xAA#8, 0xAA#8, 0xAA#8, 0xAA#8, 0xAA#8, 0xAA#8, 0xAA#8, 0xAA#8⟩ =
      some (some ⟨false, .unhandled ⟨0x2F#6⟩⟩) := by decide
/-- D-26, D-27: consumed, no record, no mark. -/
theorem test_drop :
    recordOfFrame 0xD0#32 8#4 noData = some none ∧ markOfFrame 0xD0#32 8#4 noData = some false ∧
    recordOfFrame 0x9F#32 8#4 noData = some none ∧
    (nextState (step (offering 0xD0#32 8#4 noData))).map State.offered = some none := by decide
/-- O-1, O-2, O-3: the mark is set and no record enters PEND, whatever the identifier. -/
theorem test_refuse :
    recordOfFrame 0xA7#32 9#4 noData = some none ∧ markOfFrame 0xA7#32 9#4 noData = some true ∧
    markOfFrame 0xD0#32 15#4 noData = some true ∧ markOfFrame 0xAB#32 12#4 noData = some true := by decide

/-! ### Steps, channels and the host's moves -/

/-- The machine with a record in PEND and a sink. -/
def pending (k : Sink) : State :=
  { State.reset with pend := some ⟨false, .unhandled ⟨0x20#6⟩⟩, sink := k, offered := some ⟨0xA7#32, 8#4, noData⟩ }

/-- O-7, R257: a sink that holds leaves everything as it is; the offer is held. -/
theorem test_hold_waits : step (pending .hold) = .next (pending .hold) := eq_next (by decide)
/-- Notation, TAKE: one record is handed over and the sink is ready no more. -/
theorem test_take_delivers_once :
    step (pending .once) = .next
      { pending .once with pend := none, sink := .hold, delivered := [⟨false, .unhandled ⟨0x20#6⟩⟩] } := eq_next (by decide)
/-- R253: a second offer waits; the block moves meanwhile and the turn stays. -/
theorem test_second_offer_waits :
    (nextState (step { pending .hold with turns := [.host (.offer ⟨0#32, 0#4, noData⟩)] })).map State.offered =
      some (some ⟨0xA7#32, 8#4, noData⟩) := by decide
/-- R250: reset loses the pending record and clears the mark. -/
theorem test_reset_move :
    (nextState (step { pending .always with refusalMark := true, turns := [.host .reset] })).map
      (fun t => (t.pend, t.refusalMark, t.offered, t.delivered)) = some (none, false, none, []) := by decide
/-- R256 item 1: a frame that a reset withdrew was never accepted, so its run has not ended; the same frame offered
again after the reset is accepted once, and the run over it ends. -/
theorem test_withdrawn_offer_is_no_ended_run :
    (nextState (stepN 3 { State.reset with
      turns := [.host (.offer ⟨0#32, 0#4, noData⟩), .host .reset] })).map
        (fun t => t.runEnded [⟨0#32, 0#4, noData⟩]) = some false ∧
    (nextState (stepN 4 { State.reset with
      turns := [.host (.offer ⟨0#32, 0#4, noData⟩), .host .reset, .host (.offer ⟨0#32, 0#4, noData⟩), .block] })).map
        (fun t => t.runEnded [⟨0#32, 0#4, noData⟩]) = some true := by decide
/-- P4's note: a run with the mark set has ended and is none a claim may use. -/
theorem test_marked_run_is_not_usable :
    (nextState (stepN 3 { State.reset with sink := .always, turns := streamTurns [⟨0xA7#32, 9#4, noData⟩] })).map
      (fun t => (t.runEnded [⟨0xA7#32, 9#4, noData⟩], t.usableRun [⟨0xA7#32, 9#4, noData⟩])) =
        some (true, false) := by decide
/-- X-30: a zero-padded high byte. -/
theorem test_extS16_zero_pad : extS16 ⟨0xA7#32, 1#4, ⟨0xF4#8, 1#8, 0#8, 0#8, 0#8, 0#8, 0#8, 0#8⟩⟩ 0 = 244 := by decide
/-- L2.1: the low-voltage, power and boolean decoders, which no frame reaches (R115). -/
theorem test_decoders_without_a_frame :
    decLowVoltage ⟨0#32, 8#4, ⟨0xE8#8, 0x03#8, 0#8, 0#8, 0#8, 0#8, 0#8, 0x80#8⟩⟩ 0 = sig 1000 .lv .v ∧
    decPower ⟨0#32, 8#4, ⟨0xE8#8, 0x03#8, 0#8, 0#8, 0#8, 0#8, 0#8, 0x80#8⟩⟩ 0 = sig 1000 .std .w ∧
    decBoolean ⟨0#32, 8#4, ⟨0#8, 0#8, 0#8, 0#8, 0#8, 0#8, 0#8, 0x80#8⟩⟩ 7 = true ∧
    decBoolean ⟨0#32, 7#4, ⟨0#8, 0#8, 0#8, 0#8, 0#8, 0#8, 0#8, 0x80#8⟩⟩ 7 = false := by decide

/-! ### Witnesses: values that meet all hypotheses of a statement together, at the ends of each clause -/

/-- One well-formed instruction of every row, at an end of its operands. -/
def sampleOfEachRow : List Instr :=
  [.fault 8#4 noData, .temps1 8#4 noData, .temps2 8#4 noData, .temps3 8#4 noData, .motorPosition 8#4 noData, .currents 8#4 noData,
    .voltages 0#4 noData, .internalStates 0#4 noData, .torqueTimer 0#4 noData, .unhandled03 0#4 noData, .unhandled04 0#4 noData, .unhandled0D 0#4 noData] ++
  [.unhandled08_09 0#1 8#4 noData, .unhandled08_09 1#1 0#4 noData, .unhandled0E_0F 0#1 8#4 noData,
    .unhandled0E_0F 1#1 8#4 noData, .unhandled10_1F 0#4 8#4 noData, .unhandled10_1F 15#4 8#4 noData,
    .unhandled20_2F 0#4 8#4 noData, .unhandled20_2F 15#4 8#4 noData] ++
  [.refuse 0xA7#32 9#4 noData, .refuse 0#32 15#4 noData, .drop 0x9F#32 8#4 noData, .drop 0xD0#32 0#4 noData,
    .drop 0xFFFFFFFF#32 8#4 noData]

theorem witness_DecodeOfEncodeIsTheInstruction : ∀ i ∈ sampleOfEachRow, i.wellFormed = true := by decide
theorem witness_ByteImageRoundTripAndRejections : 
    (Instr.fault 8#4 noData).wellFormed = true ∧ (List.replicate 12 0xFF#8).length < 13 ∧
    (List.replicate 12 0#8 ++ [0x10#8]).length = 13 ∧ 2 ^ 100 ≤ natOfBytes (List.replicate 12 0#8 ++ [0x10#8]) := by decide
theorem witness_DecodeOrderIsFixed : 
    8 < (9#4).toNat ∧ 8 < (15#4).toNat ∧ (0#4).toNat ≤ 8 ∧ (8#4).toNat ≤ 8 ∧
    ([0xA0#32, 0xAA#32, 0xAC#32, 0xCF#32].all fun id => decide (id ≠ 0x0AB#32 ∧ 0x0A0 ≤ id.toNat ∧ id.toNat ≤ 0x0CF)) = true ∧
    ([0#32, 0x9F#32, 0xD0#32, 0xFFFFFFFF#32].all fun id => decide (id.toNat < 0x0A0 ∨ 0x0CF < id.toNat)) = true := by decide
theorem witness_OpcodeMapOfTheOffsetRange : 
    (8#4).toNat ≤ 8 ∧ ([0xB0#32, 0xBF#32].all fun id => decide (0x0B0 ≤ id.toNat ∧ id.toNat ≤ 0x0BF)) = true ∧
    ([0xC0#32, 0xCF#32].all fun id => decide (0x0C0 ≤ id.toNat ∧ id.toNat ≤ 0x0CF)) = true := by decide
theorem witness_OpcodeRowsAreDisjoint : 
    (⟨.unhandled08_09, 0xA8#32, 0xFFFFFFFE#32, 12, false⟩ : OpcodeRow) ∈ opcodeTable ∧ 0xFFFFFFFE#32 ≠ 0#32 ∧
    0xA9#32 &&& 0xFFFFFFFE#32 = 0xA8#32 ∧ (⟨.drop, 0#32, 0#32, 99, false⟩ : OpcodeRow) ∈ opcodeTable := by decide
theorem witness_OpcodeRowsAreDisjoint_drop : ∃ d ∈ opcodeTable, d.op = .drop := by decide
theorem witness_OpcodeRowsAreDisjoint_any_id : ∀ id : CanId, id &&& 0#32 = 0#32 := fun _ => BitVec.and_zero
theorem witness_PayloadViewZeroPads :
    (0#4).toNat ≤ (0 : Fin 8).val ∧ (7#4).toNat ≤ (7 : Fin 8).val ∧ (0 : Fin 8).val < (1#4).toNat ∧
    (7 : Fin 8).val < (8#4).toNat := by decide
theorem witness_MemReadValues : 
    0 + 1 ≤ 8 ∧ 7 + 1 ≤ 8 ∧ 6 + 2 ≤ 8 ∧ 4 + 4 ≤ 8 ∧
    (8 < 5 + 4 ∨ (4 ≠ 1 ∧ 4 ≠ 2 ∧ 4 ≠ 4)) ∧ (8 < 0 + 3 ∨ (3 ≠ 1 ∧ 3 ≠ 2 ∧ 3 ≠ 4)) ∧ (8 < 8 + 1 ∨ (1 ≠ 1 ∧ 1 ≠ 2 ∧ 1 ≠ 4)) := by decide
theorem witness_MemReadWidthsAgree : 0 + 4 ≤ 8 ∧ 4 + 4 ≤ 8 ∧ 0 + 2 ≤ 8 ∧ 6 + 2 ≤ 8 := by decide
theorem witness_FieldsAreSlicesOfData64 : 
    8 ≤ (8#4).toNat ∧ memRead ⟨0#32, 8#4, ⟨1#8, 2#8, 3#8, 4#8, 5#8, 6#8, 7#8, 8#8⟩⟩ 4 4 = some 0x08070605 ∧
    memRead ⟨0#32, 15#4, ⟨1#8, 2#8, 3#8, 4#8, 5#8, 6#8, 7#8, 8#8⟩⟩ 7 1 = some 8 := by decide
theorem witness_VsmLabelOfEveryCode : ∀ c ∈ [8#8, 13#8, 16#8, 255#8], (8 ≤ c.toNat ∧ c.toNat ≤ 13) ∨ 16 ≤ c.toNat := by decide
theorem witness_InvLabelOfEveryCode : ∀ c ∈ [5#8, 7#8, 10#8, 255#8], (5 ≤ c.toNat ∧ c.toNat ≤ 7) ∨ 10 ≤ c.toNat := by decide
theorem witness_FaultVectorIsHiThenLo : 0 < 32 ∧ 15 < 32 ∧ 16 < 32 ∧ 31 < 32 := by decide
theorem witness_FaultNamesListsTheSetBits : 0 < 32 ∧ catalog[0]? = some .GATE_DESAT ∧ 31 < 32 ∧ catalog[31]? = some .BRAKE_OPEN := by decide
theorem witness_FaultNamesDetermineTheVector : faultNames 0x80000001#32 = faultNames (0x80000000#32 ||| 1#32) := by decide
theorem witness_Temps1Record : (0#4).toNat ≤ 8 ∧ (8#4).toNat ≤ 8 ∧ State.reset.pend = none := by decide
theorem witness_Temps2Record : (0#4).toNat ≤ 8 ∧ (8#4).toNat ≤ 8 ∧ State.reset.pend = none := by decide
theorem witness_Temps3Record : (0#4).toNat ≤ 8 ∧ (8#4).toNat ≤ 8 ∧ State.reset.pend = none := by decide
theorem witness_MotorPositionRecord : (0#4).toNat ≤ 8 ∧ (8#4).toNat ≤ 8 ∧ State.reset.pend = none := by decide
theorem witness_CurrentsRecord : (0#4).toNat ≤ 8 ∧ (8#4).toNat ≤ 8 ∧ State.reset.pend = none := by decide
theorem witness_VoltagesRecord : (0#4).toNat ≤ 8 ∧ (8#4).toNat ≤ 8 ∧ State.reset.pend = none := by decide
theorem witness_InternalStatesRecord : (0#4).toNat ≤ 8 ∧ (8#4).toNat ≤ 8 ∧ State.reset.pend = none := by decide
theorem witness_TorqueTimerRecord : (0#4).toNat ≤ 8 ∧ (8#4).toNat ≤ 8 ∧ State.reset.pend = none := by decide
theorem witness_FaultRecord : (0#4).toNat ≤ 8 ∧ (8#4).toNat ≤ 8 ∧ State.reset.pend = none := by decide
theorem witness_UnhandledRecords : (0#4).toNat ≤ 8 ∧ (8#4).toNat ≤ 8 ∧ State.reset.pend = none := by decide
theorem witness_DropConsumesTheFrame : 
    (Instr.drop 0x9F#32 8#4 noData).wellFormed = true ∧ (Instr.drop 0xD0#32 0#4 noData).wellFormed = true ∧
    State.reset.pend = none := by decide
theorem witness_RefuseSetsTheMark : 
    (Instr.refuse 0xAB#32 9#4 noData).wellFormed = true ∧ (Instr.refuse 0#32 15#4 noData).wellFormed = true ∧
    State.reset.pend = none := by decide
theorem witness_InstructionFrame : 
    exec (.drop 0xD0#32 8#4 noData) State.reset = .next 
      { State.reset with latch := ⟨0xD0#32, 8#4, noData⟩, accepted := [⟨0xD0#32, 8#4, noData⟩] } ∧
    State.reset.pend = none ∧ (Instr.drop 0xD0#32 8#4 noData).opcode = .drop ∧
    exec (.refuse 0#32 9#4 noData) (pending .once) = .next (pending .once) ∧
    (pending .once).pend = some ⟨false, .unhandled ⟨0x20#6⟩⟩ := 
  ⟨eq_next (by decide), by decide, by decide, eq_next (by decide), by decide⟩
theorem witness_AcceptIsTheRoutersDecode : State.reset.pend = none := by decide
theorem witness_RouterCases : 
    8 < (9#4).toNat ∧ (0#4).toNat ≤ 8 ∧ (8#4).toNat ≤ 8 ∧
    ([0xA0#32, 0xAA#32, 0xAC#32, 0xCF#32].all fun id => decide (id ≠ 0x0AB#32 ∧ 0x0A0 ≤ id.toNat ∧ id.toNat ≤ 0x0CF)) = true ∧
    ([0#32, 0x9F#32, 0xD0#32, 0xFFFFFFFF#32].all fun id => decide (id.toNat < 0x0A0 ∨ 0x0CF < id.toNat)) = true := by decide
theorem witness_ShortFlagOfEveryRecord : 
    routeFrame ⟨0xAA#32, 3#4, noData⟩ = .record ⟨true, .internalStates ⟨0#8, .START, 0#8, 0#8, .POWER_ON, 0#8⟩⟩ ∧
    routeFrame ⟨0xA3#32, 0#4, noData⟩ = .record ⟨false, .unhandled ⟨3#6⟩⟩ ∧
    routeFrame ⟨0xA0#32, 7#4, noData⟩ =
      .record ⟨true, .temps1 ⟨sig 0 .std .degc, sig 0 .std .degc, sig 0 .std .degc, sig 0 .std .degc⟩⟩ := by decide
theorem witness_KindCodes : 0xA ≤ (0xA#4).toNat ∧ 0xA ≤ (0xF#4).toNat ∧ routeFrame ⟨0xA3#32, 0#4, noData⟩ = .record ⟨false, .unhandled ⟨3#6⟩⟩ := by decide
theorem witness_OutcomeCodesOfEveryFrame : routeFrame ⟨0xA3#32, 0#4, noData⟩ = .record ⟨false, .unhandled ⟨3#6⟩⟩ := by decide
theorem witness_UnreadBytesDoNotMatter : 
    (∀ k : Fin 8, k.val < (7#4).toNat → dataByte noData k = dataByte ⟨0#8, 0#8, 0#8, 0#8, 0#8, 0#8, 0#8, 0xFF#8⟩ k) ∧
    (∀ k : Fin 8, k.val < 4 → dataByte noData k = dataByte ⟨0#8, 0#8, 0#8, 0#8, 0xFF#8, 0#8, 0#8, 0#8⟩ k) := by decide
theorem witness_EveryRecordIsSound : routeFrame ⟨0xAD#32, 8#4, noData⟩ = .record ⟨false, .unhandled ⟨0x0D#6⟩⟩ := by decide
theorem witness_StepRunsTheDecodedInstruction : 
    (offering 0xA7#32 8#4 noData).pend = none ∧ (offering 0xA7#32 8#4 noData).offered = some ⟨0xA7#32, 8#4, noData⟩ ∧
    (offering 0xA7#32 8#4 noData).turns = [] ∧ (State.reset.withFetchWord 32 0xA7).pend = none ∧
    (State.reset.withFetchWord 32 0xA7).offered = some ⟨0xA7#32, 0#4, noData⟩ ∧
    (State.reset.withFetchWord 32 0xA7).turns = .block :: [] := by decide
theorem witness_DeliverHandsOverTheRecord : 
    (pending .once).pend = some ⟨false, .unhandled ⟨0x20#6⟩⟩ ∧ (pending .once).sink ≠ .hold ∧
    (pending .once).turns = [] ∧ (pending .always).sink ≠ .hold := by decide
theorem witness_WaitingChangesNothing : 
    State.reset.turns = [] ∧ State.reset.pend = none ∧ State.reset.offered = none ∧
    (pending .hold).turns = [] ∧ (pending .hold).pend = some ⟨false, .unhandled ⟨0x20#6⟩⟩ ∧ (pending .hold).sink = .hold := by decide
theorem witness_HostResetEmptiesTheBlock : 
    ({ pending .hold with turns := [.host .reset, .block] } : State).turns = .host .reset :: [.block] := by decide
theorem witness_MarkIsSticky : 
    step (offering 0xA7#32 9#4 noData) = .next
      { State.reset with
        latch := ⟨0xA7#32, 9#4, noData⟩, refusalMark := true, accepted := [⟨0xA7#32, 9#4, noData⟩] } ∧
    (offering 0xA7#32 9#4 noData).hostTurn ≠ some .reset := 
  ⟨eq_next (by decide), by decide⟩
theorem witness_RecordsLeaveInAcceptanceOrder : 
    step (pending .hold) = .next (pending .hold) ∧ (pending .hold).hostTurn ≠ some .reset := 
  ⟨eq_next (by decide), by decide⟩
theorem witness_OfferIsHeldUntilAccepted : 
    step (pending .hold) = .next (pending .hold) ∧ (pending .hold).offered = some ⟨0xA7#32, 8#4, noData⟩ ∧
    (pending .hold).hostTurn ≠ some .reset ∧
    step (offering 0#32 8#4 noData) = .next
      { State.reset with latch := ⟨0#32, 8#4, noData⟩, accepted := [⟨0#32, 8#4, noData⟩] } ∧
    (offering 0#32 8#4 noData).offered = some ⟨0#32, 8#4, noData⟩ ∧
    (offering 0#32 8#4 noData).hostTurn ≠ some .reset := 
  ⟨eq_next (by decide), by decide, by decide, eq_next (by decide), by decide, by decide⟩
theorem witness_PendingRecordStaysUntilDelivered : 
    step (pending .hold) = .next (pending .hold) ∧ (pending .hold).pend = some ⟨false, .unhandled ⟨0x20#6⟩⟩ ∧
    (pending .hold).hostTurn ≠ some .reset ∧ (pending .once).delivers = some ⟨false, .unhandled ⟨0x20#6⟩⟩ := 
  ⟨eq_next (by decide), by decide, by decide, by decide⟩
/-- A sound state with a record in PEND and one delivered, which takes a step. -/
theorem witness_StepKeepsSoundness :
    let s : State :=
      { State.reset with
        latch := ⟨0xC0#32, 8#4, noData⟩
        pend := some ⟨false, .unhandled ⟨0x20#6⟩⟩
        delivered := [⟨false, .unhandled ⟨0x03#6⟩⟩] }
    s.Sound ∧ step s = .next s := by
  refine ⟨⟨?_, by decide⟩, eq_next (by decide)⟩
  intro r h
  cases h
  decide
theorem witness_OfferedFrameIsAccepted : 
    (offering 0xA7#32 8#4 noData).pend = none ∧ (offering 0xA7#32 8#4 noData).offered = some ⟨0xA7#32, 8#4, noData⟩ ∧
    noReset [.host (.sink .once), .block] = true ∧ noReset (offering 0xA7#32 8#4 noData).turns = true := by decide
theorem witness_PendingRecordIsDelivered : 
    (pending .once).pend = some ⟨false, .unhandled ⟨0x20#6⟩⟩ ∧ (pending .once).sink ≠ .hold ∧
    sinkUntouched [.host (.offer ⟨0#32, 0#4, noData⟩), .block] = true ∧ sinkUntouched (pending .once).turns = true := by decide
theorem witness_StreamDeliversEveryRecordInOrder :
    let s : State := { State.reset with sink := .always, turns := streamTurns [⟨0xA7#32, 8#4, noData⟩, ⟨0#32, 9#4, noData⟩] }
    s.pend = none ∧ s.offered = none ∧ s.sink = .always ∧
      s.turns = streamTurns [⟨0xA7#32, 8#4, noData⟩, ⟨0#32, 9#4, noData⟩] := by decide
/-- A stream whose run a claim may use. -/
theorem witness_StreamDeliversEveryRecordInOrder_usable :
    (nextState (stepN 3 { State.reset with sink := .always, turns := streamTurns [⟨0xAD#32, 8#4, noData⟩] })).map
      (fun t => t.usableRun (State.reset.accepted ++ [⟨0xAD#32, 8#4, noData⟩])) = some true := by decide

end Sys2Proof.Tests
end

