-- ==== Sys2Proof/Proofs/Records.lean ====
section
/-! What a frame's record is, and that it is sound (00_scope.md R10, 30_encoding.md R82, 41_field_extractor.md R102 and
R112, 43_fault_decoder.md R159). -/

namespace Sys2Proof.Machine

/-- The message types without a schema, by number (44_router_dispatch.md R196). -/
theorem MsgType.unhandled_iff (t : MsgType) : MsgType.unhandled t = true ↔
    t.toNat = 0x03 ∨ t.toNat = 0x04 ∨ t.toNat = 0x08 ∨ t.toNat = 0x09 ∨ (0x0D ≤ t.toNat ∧ t.toNat ≤ 0x2F) := by
  simp only [MsgType.unhandled, Bool.or_eq_true, beq_iff_eq, BitVec.toNat_eq, decide_eq_true_eq, or_assoc]
  rfl

/-! ### The router, in numbers -/

theorem routeFrame_refused {f : Frame} (hl : 8 < f.len.toNat) : routeFrame f = .refused .lenRange :=
  if_pos hl

theorem routeFrame_fault {f : Frame} (hl : f.len.toNat ≤ 8) (hid : f.id = Config.faultId) :
    routeFrame f = .record (mkRecord f (faultBody f)) := by
  rw [routeFrame, if_neg (Nat.not_lt.mpr hl), if_pos hid, recordOf]

/-- The range test of R182, as the router writes it. -/
theorem routeFrame_range_iff (id : CanId) :
    (Config.baseId ≤ id ∧ id ≤ Config.baseId + Config.typeMax.setWidth Config.idWidth) ↔
      0xA0 ≤ id.toNat ∧ id.toNat ≤ 0xCF := by
  simp [BitVec.le_def, Config.baseId, Config.typeMax]

theorem routeFrame_dispatch {f : Frame} (hl : f.len.toNat ≤ 8) (hid : f.id ≠ Config.faultId)
    (hr : 0xA0 ≤ f.id.toNat ∧ f.id.toNat ≤ 0xCF) :
    routeFrame f = .record (mkRecord f (dispatchBody (msgType f.id) f)) := by
  rw [routeFrame, if_neg (Nat.not_lt.mpr hl), if_neg hid, if_pos ((routeFrame_range_iff f.id).mpr hr), recordOf, msgType]

theorem routeFrame_dropped {f : Frame} (hl : f.len.toNat ≤ 8) (hid : f.id ≠ Config.faultId)
    (hr : ¬ (0xA0 ≤ f.id.toNat ∧ f.id.toNat ≤ 0xCF)) : routeFrame f = .dropped := by
  rw [routeFrame, if_neg (Nat.not_lt.mpr hl), if_neg hid, if_neg (mt (routeFrame_range_iff f.id).mp hr)]

/-- An identifier of the offset range other than FAULT_ID never gives the shadowed type (R82). -/
theorem msgType_ne_shadowed {id : CanId} (hid : id ≠ Config.faultId) (hr : 0xA0 ≤ id.toNat ∧ id.toNat ≤ 0xCF) :
    (msgType id).toNat ≠ 0x0B := by
  have hne : id.toNat ≠ 0xAB := fun h => hid (BitVec.eq_of_toNat_eq h)
  rw [msgType_toNat hr]
  omega

/-- Every record is that of FAULT or of a message type in 0..0x2F other than the shadowed 0x0B (R180, R82). -/
theorem routeFrame_record_cases {f : Frame} {r : Record} (h : routeFrame f = .record r) :
    r = mkRecord f (faultBody f) ∨
      ∃ t : MsgType, t.toNat ≤ 0x2F ∧ t.toNat ≠ 0x0B ∧ r = mkRecord f (dispatchBody t f) := by
  by_cases hl : 8 < f.len.toNat
  · rw [routeFrame_refused hl] at h
    cases h
  rw [not_lt] at hl
  by_cases hid : f.id = Config.faultId
  · rw [routeFrame_fault hl hid] at h
    cases h
    exact .inl rfl
  by_cases hr : 0xA0 ≤ f.id.toNat ∧ f.id.toNat ≤ 0xCF
  · rw [routeFrame_dispatch hl hid hr] at h
    cases h
    have ht := msgType_toNat hr
    exact .inr ⟨msgType f.id, by omega, msgType_ne_shadowed hid hr, rfl⟩
  · rw [routeFrame_dropped hl hid hr] at h
    cases h

/-! ### The bodies are sound -/

theorem faultBit_eq_append (lo hi : FaultWord) (i : Nat) : faultBit lo hi i = (hi ++ lo).getLsbD i := by
  simp only [faultBit, maskTest_eq, BitVec.getLsbD_append]

/-- The loop of R153 computes the concatenation of the two words (R154). -/
theorem faultTest_eq_append (lo hi : FaultWord) : faultTest lo hi = hi ++ lo := by
  apply BitVec.eq_of_getLsbD_eq
  intro i hi32
  rw [faultTest, faultScan_getLsbD lo hi i hi32, faultBit_eq_append]
  simp [hi32]

theorem faultBody_sound (f : Frame) : (faultBody f).sound = true := by
  simp [faultBody, Body.sound, faultTest_eq_append]

theorem temps1Body_sound (f : Frame) : (temps1Body f).sound = true := by
  simp [temps1Body, Body.sound, decSignedScaled_sound]

theorem temps2Body_sound (f : Frame) : (temps2Body f).sound = true := by
  simp [temps2Body, Body.sound, decSignedScaled_sound]

theorem temps3Body_sound (f : Frame) : (temps3Body f).sound = true := by
  simp [temps3Body, Body.sound, decSignedScaled_sound]

theorem motorPositionBody_sound (f : Frame) : (motorPositionBody f).sound = true := by
  simp [motorPositionBody, Body.sound, decSignedScaled_sound, decAngularVelocity_sound]

theorem currentsBody_sound (f : Frame) : (currentsBody f).sound = true := by
  simp [currentsBody, Body.sound, decSignedScaled_sound]

theorem voltagesBody_sound (f : Frame) : (voltagesBody f).sound = true := by
  simp [voltagesBody, Body.sound, decSignedScaled_sound]

theorem internalStatesBody_sound (f : Frame) : (internalStatesBody f).sound = true := by
  simp [internalStatesBody, Body.sound, vsmLabel, invLabel]

theorem torqueTimerBody_sound (f : Frame) : (torqueTimerBody f).sound = true := by
  simp [torqueTimerBody, Body.sound, decSignedScaled_sound, ticksToSeconds]

theorem unhandledBody_sound {t : MsgType} (h : MsgType.unhandled t = true) (f : Frame) :
    (unhandledBody t f).sound = true := h

/-- One case per line of `dispatchBody`: the last takes exactly the types without a schema (R184, R196). -/
theorem dispatchBody_sound {t : MsgType} (ht : t.toNat ≤ 0x2F) (hb : t.toNat ≠ 0x0B) (f : Frame) :
    (dispatchBody t f).sound = true := by
  unfold dispatchBody
  split
  · exact temps1Body_sound f
  · exact temps2Body_sound f
  · exact temps3Body_sound f
  · exact motorPositionBody_sound f
  · exact currentsBody_sound f
  · exact voltagesBody_sound f
  · exact internalStatesBody_sound f
  · exact torqueTimerBody_sound f
  · apply unhandledBody_sound
    rw [MsgType.unhandled_iff]
    simp only [imp_false] at *
    omega

/-! ### The records are sound -/

/-- No length warning is given on an UNHANDLED record: its schema reads no byte (R102). -/
theorem shortFlag_unhandled (len : Len) : shortFlag .UNHANDLED len = false := by
  simp [shortFlag, req]

theorem mkRecord_sound (f : Frame) {b : Body} (h : b.sound = true) : (mkRecord f b).sound = true := by
  by_cases hk : b.kind = .UNHANDLED
  · simp [Record.sound, mkRecord, h, hk, shortFlag_unhandled]
  · simp [Record.sound, Record.kind, mkRecord, h, hk]

/-- Settles O43: a record is that of FAULT or of a dispatched type, and each of these bodies is sound. -/
theorem everyRecordIsSound : Obligations.EveryRecordIsSound := by
  intro f r h
  obtain rfl | ⟨t, ht, hb, rfl⟩ := routeFrame_record_cases h
  · exact mkRecord_sound f (faultBody_sound f)
  · exact mkRecord_sound f (dispatchBody_sound ht hb f)

end Sys2Proof.Machine
end

/-! What a step does to the state: the router and the instructions agree (44_router_dispatch.md R180), one inversion
lemma for a step, and what follows from it: soundness, the order of the records, and what no run observes
(10_state.md R27, R32, R33). -/

namespace Sys2Proof.Machine

/-! ### The router and the decoded instruction (R180) -/

theorem encodeFrame_decodeFrame (f : Frame) : encodeFrame (decodeFrame f) = f := by
  unfold decodeFrame
  split_ifs with hl hid hr
  · rfl
  · rw [encodeFrame, ← hid]
  · rw [idInRange_iff] at hr
    rw [encodeFrame_decodeType (by rw [msgType_toNat hr]; omega), typeFrame_msgType hr]
  · rfl

/-- The row of a type other than the shadowed one decodes as `DISPATCH` does (R184). -/
theorem result_decodeType {t : MsgType} (ht : t.toNat ≤ 0x2F) (hb : t.toNat ≠ 0x0B) (len : Len) (data : Payload) :
    (decodeType t len data).result = recordOf (dispatchBody t) := by
  refine msgType_cases
    (P := fun t => t.toNat ≠ 0x0B → (decodeType t len data).result = recordOf (dispatchBody t)) ?_ ht hb
  intro n hn hne
  rcases lt_trichotomy n 0x0B with hlow | rfl | hhigh
  · interval_cases n <;> rfl
  · exact absurd rfl hne
  · interval_cases n <;> rfl

/-- One case per test of R72, which are the tests of R180. -/
theorem result_decodeFrame (f : Frame) : (decodeFrame f).result f = routeFrame f := by
  unfold decodeFrame
  split_ifs with hl hid hr
  · exact (routeFrame_refused ((lenTooLong_iff _).mp hl)).symm
  all_goals rw [lenTooLong_iff, not_lt] at hl
  · exact (routeFrame_fault hl hid).symm
  · rw [idInRange_iff] at hr
    rw [result_decodeType (by rw [msgType_toNat hr]; omega) (msgType_ne_shadowed hid hr),
      routeFrame_dispatch hl hid hr, recordOf]
  · rw [idInRange_iff] at hr
    exact (routeFrame_dropped hl hid hr).symm

theorem exec_decodeFrame {s : State} (h : s.pend = none) (f : Frame) :
    exec (decodeFrame f) s = .next (applyResult (routeFrame f) (latchFrame f s)) := by
  rw [exec_of_pend_none h, encodeFrame_decodeFrame, result_decodeFrame]

/-- Settles O37: the decoded row's frame is the offered one, and its decode is the router's. -/
theorem acceptIsTheRoutersDecode : Obligations.AcceptIsTheRoutersDecode :=
  fun f _ h => exec_decodeFrame h f

/-! ### What a result does to PEND and the mark (R27, R224) -/

@[simp] theorem applyResult_pend (res : DecodeResult) (s : State) :
    (applyResult res s).pend = res.toRecord.or s.pend := by
  rcases res with r | _ | ⟨⟨⟩⟩ <;> rfl

theorem applyResult_refusalMark {res : DecodeResult} (h : res ≠ .refused .lenRange) (s : State) :
    (applyResult res s).refusalMark = s.refusalMark := by
  rcases res with r | _ | ⟨⟨⟩⟩
  · rfl
  · rfl
  · exact absurd rfl h

theorem DecodeResult.toRecord_eq_some {res : DecodeResult} {r : Record} :
    res.toRecord = some r ↔ res = .record r := by
  rcases res with r' | _ | _ <;> simp [DecodeResult.toRecord]

theorem result_ne_refused {i : Instr} (h : i.opcode ≠ .refuse) (f : Frame) : i.result f ≠ .refused .lenRange := by
  cases i
  case refuse => exact absurd rfl h
  all_goals exact DecodeResult.noConfusion

theorem result_toRecord_of_refuse_or_drop {i : Instr} (h : i.opcode = .refuse ∨ i.opcode = .drop) (f : Frame) :
    (i.result f).toRecord = none := by
  cases i
  case refuse => rfl
  case drop => rfl
  all_goals simp [Instr.opcode] at h

/-- Settles O36: with PEND full the state is the same; with PEND none it is ACCEPT's, and only the result of the
instruction's row tells what becomes of PEND and the mark. -/
theorem instructionFrame : Obligations.InstructionFrame := by
  intro i s t h
  cases hp : s.pend with
  | some r =>
    rw [exec_of_pend_some hp] at h
    cases h
    simp [hp]
  | none =>
    rw [exec_of_pend_none hp] at h
    cases h
    refine ⟨by simp, by simp, by simp, by simp, by simp, by simp, fun hr => ?_, fun hrd => ?_⟩
    · exact applyResult_refusalMark (result_ne_refused hr _) _
    · simp [result_toRecord_of_refuse_or_drop hrd, hp]

/-! ### A step, turn by turn (log 4, log 7) -/

theorem step_of_no_turn {s : State} (h : s.turns = []) : step s = blockStep s := by
  simp [step, h]

theorem step_of_block_turn {s : State} {rest : List Turn} (h : s.turns = .block :: rest) :
    step s = blockStep { s with turns := rest } := by
  simp [step, h]

theorem step_of_host_turn {s : State} {m : HostMove} {rest : List Turn} (h : s.turns = .host m :: rest)
    (hm : hostMayMove m s = true) : step s = .next (hostMove m { s with turns := rest }) := by
  simp [step, h, hm]

theorem step_of_waiting_turn {s : State} {m : HostMove} {rest : List Turn} (h : s.turns = .host m :: rest)
    (hm : hostMayMove m s = false) : step s = blockStep s := by
  simp [step, h, hm]

/-! ### The block's move (R27) -/

theorem blockStep_hold {s : State} {r : Record} (h : s.pend = some r) (hs : s.sink = .hold) :
    blockStep s = .next s := by
  rw [blockStep_pend_some h, tryDeliver_hold hs]

theorem blockStep_deliver {s : State} {r : Record} (h : s.pend = some r) (hs : s.sink ≠ .hold) :
    blockStep s = .next (deliver r s) := by
  rw [blockStep_pend_some h, tryDeliver_ready hs]

theorem blockStep_accept {s : State} {f : Frame} (h : s.pend = none) (ho : s.offered = some f) :
    blockStep s = .next (applyResult (routeFrame f) (latchFrame f s)) := by
  rw [blockStep_accepts h ho, exec_decodeFrame h]

/-- Settles O44: with no turn left, or a `block` turn at the head, the block moves, and its move is the instruction. -/
theorem stepRunsTheDecodedInstruction : Obligations.StepRunsTheDecodedInstruction := by
  intro s f h ho
  refine ⟨fun ht => ?_, fun rest ht => ?_⟩
  · rw [step_of_no_turn ht, blockStep_accepts h ho]
  · rw [step_of_block_turn ht, blockStep_accepts (s := { s with turns := rest }) h ho]

theorem Sink.afterDeliver_eq (k : Sink) : k.afterDeliver = if k = .once then .hold else k := by
  cases k <;> rfl

/-- Settles O45: the block's move is DELIVER. -/
theorem deliverHandsOverTheRecord : Obligations.DeliverHandsOverTheRecord := by
  intro s r h hs ht
  rw [step_of_no_turn ht, blockStep_deliver h hs, deliver, Sink.afterDeliver_eq]

/-- Settles O46: the sink takes nothing, or nothing is offered. -/
theorem waitingChangesNothing : Obligations.WaitingChangesNothing := by
  intro s ht h
  rw [step_of_no_turn ht]
  obtain ⟨⟨r, hp⟩, hs⟩ | ⟨hp, ho⟩ := h
  · exact blockStep_hold hp hs
  · exact blockStep_idle hp ho

/-! ### Everything a step can do -/

/-- A step from `s`, with its guard: a host move, or one of the four things the block does with its turn; `ts` are the
turns then left. -/
inductive Move (s : State) : State → Prop
  | host {m : HostMove} (ts : List Turn) (hh : s.hostTurn = some m) : Move s (hostMove m { s with turns := ts })
  | hold {r : Record} (ts : List Turn) (hh : s.hostTurn = none) (hp : s.pend = some r) (hs : s.sink = .hold) :
      Move s { s with turns := ts }
  | deliver {r : Record} (ts : List Turn) (hh : s.hostTurn = none) (hp : s.pend = some r) (hs : s.sink ≠ .hold) :
      Move s (deliver r { s with turns := ts })
  | accept {f : Frame} (ts : List Turn) (hh : s.hostTurn = none) (hp : s.pend = none) (ho : s.offered = some f) :
      Move s (applyResult (routeFrame f) (latchFrame f { s with turns := ts }))
  | idle (ts : List Turn) (hh : s.hostTurn = none) (hp : s.pend = none) (ho : s.offered = none) :
      Move s { s with turns := ts }

theorem Move.of_blockStep {s t : State} {ts : List Turn} (hh : s.hostTurn = none)
    (h : blockStep { s with turns := ts } = .next t) : Move s t := by
  cases hp : s.pend with
  | some r =>
    by_cases hs : s.sink = .hold
    · rw [blockStep_hold (s := { s with turns := ts }) hp hs] at h
      cases h
      exact .hold ts hh hp hs
    · rw [blockStep_deliver (s := { s with turns := ts }) hp hs] at h
      cases h
      exact .deliver ts hh hp hs
  | none =>
    cases ho : s.offered with
    | some f =>
      rw [blockStep_accept (s := { s with turns := ts }) hp ho] at h
      cases h
      exact .accept ts hh hp ho
    | none =>
      rw [blockStep_idle (s := { s with turns := ts }) hp ho] at h
      cases h
      exact .idle ts hh hp ho

theorem Move.of_step {s t : State} (h : step s = .next t) : Move s t := by
  obtain ⟨m, rest, -, -, hh, hstep⟩ | ⟨hh, ts, hstep⟩ := step_cases s
  · rw [hstep] at h
    cases h
    exact .host rest hh
  · exact .of_blockStep hh (hstep ▸ h)

/-! ### The host's moves (R233) -/

@[simp] theorem hostMove_delivered (m : HostMove) (s : State) : (hostMove m s).delivered = s.delivered := by
  cases m <;> rfl

@[simp] theorem hostMove_accepted (m : HostMove) (s : State) : (hostMove m s).accepted = s.accepted := by
  cases m <;> rfl

theorem hostMove_pend {m : HostMove} (h : m ≠ .reset) (s : State) : (hostMove m s).pend = s.pend := by
  cases m with
  | offer f => rfl
  | sink k => rfl
  | reset => exact absurd rfl h

theorem hostMove_latch {m : HostMove} (h : m ≠ .reset) (s : State) : (hostMove m s).latch = s.latch := by
  cases m with
  | offer f => rfl
  | sink k => rfl
  | reset => exact absurd rfl h

/-! ### The invariant (R27, R180) -/

/-- The invariant reads only the latch, PEND and the records delivered. -/
theorem State.Sound.congr {s t : State} (h : s.Sound) (hl : t.latch = s.latch) (hp : t.pend = s.pend)
    (hd : t.delivered = s.delivered) : t.Sound := by
  unfold State.Sound
  rw [hl, hp, hd]
  exact h

/-- With PEND none only the records delivered matter. -/
theorem State.Sound.of_pend_none {s t : State} (h : s.Sound) (hp : t.pend = none) (hd : t.delivered = s.delivered) :
    t.Sound :=
  ⟨fun r hr => by simp [hp] at hr, hd ▸ h.2⟩

theorem hostMove_sound {s : State} (h : s.Sound) (m : HostMove) : (hostMove m s).Sound := by
  by_cases hm : m = .reset
  · subst hm
    exact h.of_pend_none rfl rfl
  · exact h.congr (hostMove_latch hm s) (hostMove_pend hm s) (hostMove_delivered m s)

/-- The record handed over is that of the latched frame, and every frame's record is sound (O43). -/
theorem deliver_sound {s : State} {r : Record} (h : s.Sound) (hp : s.pend = some r) : (deliver r s).Sound := by
  obtain ⟨hpend, hdel⟩ := h
  have hr : r.sound = true := everyRecordIsSound s.latch r (hpend r hp)
  refine ⟨by simp, fun r' hr' => ?_⟩
  rw [deliver_delivered, List.mem_append, List.mem_singleton] at hr'
  obtain hr' | rfl := hr'
  · exact hdel r' hr'
  · exact hr

/-- ACCEPT puts in PEND the record of the frame it latches. -/
theorem accept_sound {s : State} (h : s.Sound) (hp : s.pend = none) (f : Frame) :
    (applyResult (routeFrame f) (latchFrame f s)).Sound := by
  refine ⟨fun r hr => ?_, by simpa using h.2⟩
  rw [applyResult_pend, latchFrame_pend, hp, Option.or_none, DecodeResult.toRecord_eq_some] at hr
  simpa using hr

/-- Settles O57, by the cases of a step. -/
theorem stepKeepsSoundness : Obligations.StepKeepsSoundness := by
  intro s t hs h
  have hts : ∀ ts, State.Sound { s with turns := ts } := fun _ => hs
  cases Move.of_step h with
  | host ts _ => exact hostMove_sound (hts ts) _
  | hold ts _ _ _ => exact hts ts
  | deliver ts _ hp _ => exact deliver_sound (hts ts) hp
  | accept ts _ hp _ => exact accept_sound (hts ts) hp _
  | idle ts _ _ _ => exact hts ts

/-- Settles O56: at reset PEND is none and nothing has been delivered. -/
theorem resetIsSound : Obligations.ResetIsSound :=
  ⟨by simp [State.reset], by simp [State.reset]⟩

/-- Settles O48, by the values of the constants. -/
theorem resetValues : Obligations.ResetValues :=
  ⟨rfl, rfl, rfl, rfl, rfl, rfl⟩

/-! ### What a step accepts and delivers -/

theorem accepts_of_host {s : State} {m : HostMove} (h : s.hostTurn = some m) : s.accepts = none := by
  simp [State.accepts, h]

theorem accepts_of_pend_some {s : State} {r : Record} (h : s.pend = some r) : s.accepts = none := by
  simp [State.accepts, h]

theorem accepts_of_pend_none {s : State} (hh : s.hostTurn = none) (h : s.pend = none) : s.accepts = s.offered := by
  simp [State.accepts, hh, h]

theorem delivers_of_host {s : State} {m : HostMove} (h : s.hostTurn = some m) : s.delivers = none := by
  simp [State.delivers, h]

theorem delivers_of_hold {s : State} (h : s.sink = .hold) : s.delivers = none := by
  simp [State.delivers, h]

theorem delivers_of_ready {s : State} (hh : s.hostTurn = none) (h : s.sink ≠ .hold) : s.delivers = s.pend := by
  simp [State.delivers, hh, h]

/-- Settles O53: DELIVER moves the record from PEND to the end of those delivered, ACCEPT adds its frame and puts its
record in an empty PEND, and no other step touches these lists. -/
theorem recordsLeaveInAcceptanceOrder : Obligations.RecordsLeaveInAcceptanceOrder := by
  intro s t h
  cases Move.of_step h with
  | host ts hh =>
    refine ⟨by simp [accepts_of_host hh], fun hres => ?_⟩
    have hp := hostMove_pend (fun hm => hres (hm ▸ hh)) { s with turns := ts }
    simp [accepts_of_host hh, hp]
  | hold ts _ hp _ => simp [accepts_of_pend_some hp]
  | deliver ts _ hp _ => simp [accepts_of_pend_some hp, hp]
  | accept ts hh hp ho => simp [accepts_of_pend_none hh hp, hp, ho]
  | idle ts hh hp ho => simp [accepts_of_pend_none hh hp, ho]

/-- Settles O55: DELIVER is the one step of the block that a full PEND allows. -/
theorem pendingRecordStaysUntilDelivered : Obligations.PendingRecordStaysUntilDelivered := by
  intro s t r h hr hres
  cases Move.of_step h with
  | @host m ts hh =>
    have hm : m ≠ .reset := fun hm => hres (hm ▸ hh)
    rw [delivers_of_host hh, if_neg nofun]
    exact ⟨(hostMove_pend hm _).trans hr, hostMove_delivered m _⟩
  | hold ts _ _ hs => simp [delivers_of_hold hs, hr]
  | @deliver r' ts hh hp hs =>
    obtain rfl : r' = r := Option.some.inj (hp.symm.trans hr)
    simp [delivers_of_ready hh hs, hr]
  | accept ts _ hp _ => simp [hp] at hr
  | idle ts _ hp _ => simp [hp] at hr

/-! ### What no run observes (R32, R33) -/

/-- The state with another latch, and with records and frames of an earlier time in front of its own. -/
def State.withPast (l : Frame) (d : List Record) (a : List Frame) (s : State) : State :=
  { s with latch := l, delivered := d ++ s.delivered, accepted := a ++ s.accepted }

section
variable (l : Frame) (d : List Record) (a : List Frame)

theorem applyResult_withPast (res : DecodeResult) (s : State) :
    applyResult res (s.withPast l d a) = (applyResult res s).withPast l d a := by
  rcases res with r | _ | ⟨⟨⟩⟩ <;> rfl

theorem latchFrame_withPast (f : Frame) (s : State) :
    latchFrame f (s.withPast l d a) = (latchFrame f s).withPast f d a := by
  simp [latchFrame, State.withPast]

theorem deliver_withPast (r : Record) (s : State) :
    deliver r (s.withPast l d a) = (deliver r s).withPast l d a := by
  simp [deliver, State.withPast]

/-- The outcomes of a state and of the same state with another past: the same but for the past, and with the same latch
if the latches were the same. -/
def SameButPast (s : State) (o o' : Host.Outcome State Fault Refusal) : Prop :=
  ∃ t l', o = .next t ∧ o' = .next (t.withPast l' d a) ∧ (l = s.latch → l' = t.latch)

theorem hostMove_withPast (m : HostMove) (s : State) :
    SameButPast l d a s (.next (hostMove m s)) (.next (hostMove m (s.withPast l d a))) := by
  cases m with
  | offer f => exact ⟨_, l, rfl, rfl, id⟩
  | sink k => exact ⟨_, l, rfl, rfl, id⟩
  | reset => exact ⟨_, freeLatch s.freeDraw, rfl, rfl, fun _ => rfl⟩

/-- The block's move reads PEND, the sink and the channel, and ACCEPT overwrites the latch. -/
theorem blockStep_withPast (s : State) :
    SameButPast l d a s (blockStep s) (blockStep (s.withPast l d a)) := by
  cases hp : s.pend with
  | some r =>
    by_cases hs : s.sink = .hold
    · exact ⟨s, l, blockStep_hold hp hs, blockStep_hold (s := s.withPast l d a) hp hs, id⟩
    · refine ⟨deliver r s, l, blockStep_deliver hp hs, ?_, id⟩
      rw [blockStep_deliver (s := s.withPast l d a) hp hs, deliver_withPast]
  | none =>
    cases ho : s.offered with
    | some f =>
      refine ⟨_, f, blockStep_accept hp ho, ?_, fun _ => by simp⟩
      rw [blockStep_accept (s := s.withPast l d a) hp ho, latchFrame_withPast, applyResult_withPast]
    | none => exact ⟨s, l, blockStep_idle hp ho, blockStep_idle (s := s.withPast l d a) hp ho, id⟩

/-- Who moves is read from the turns and the channel alone. -/
theorem step_withPast (s : State) : SameButPast l d a s (step s) (step (s.withPast l d a)) := by
  rcases ht : s.turns with _ | ⟨m | _, rest⟩
  · rw [step_of_no_turn ht, step_of_no_turn (s := s.withPast l d a) ht]
    exact blockStep_withPast l d a s
  · cases hm : hostMayMove m s with
    | true =>
      rw [step_of_host_turn ht hm, step_of_host_turn (s := s.withPast l d a) ht hm]
      exact hostMove_withPast l d a m { s with turns := rest }
    | false =>
      rw [step_of_waiting_turn ht hm, step_of_waiting_turn (s := s.withPast l d a) ht hm]
      exact blockStep_withPast l d a s
  · rw [step_of_block_turn ht, step_of_block_turn (s := s.withPast l d a) ht]
    exact blockStep_withPast l d a { s with turns := rest }

end

theorem stepN_withPast (d : List Record) (a : List Frame) (n : Nat) (s : State) (l : Frame) :
    SameButPast l d a s (stepN n s) (stepN n (s.withPast l d a)) := by
  induction n generalizing s l with
  | zero => exact ⟨s, l, rfl, rfl, id⟩
  | succ n ih =>
    obtain ⟨t, l', hs, hs', hl⟩ := step_withPast l d a s
    obtain ⟨u, l'', ht, ht', hl'⟩ := ih t l'
    exact ⟨u, l'', (stepN_succ hs n).trans ht, (stepN_succ hs' n).trans ht', hl' ∘ hl⟩

/-- Settles O50: the run with another latch and nothing put in front. -/
theorem latchIsNeverObserved : Obligations.LatchIsNeverObserved := by
  intro n s l
  obtain ⟨t, l', ht, hu, -⟩ := stepN_withPast [] [] n s l
  exact ⟨t, t.withPast l' [] [], ht, hu, rfl⟩

/-- Settles O51: the run with the same latch and a history in front. -/
theorem historyDoesNotMatter : Obligations.HistoryDoesNotMatter := by
  intro n s d a
  obtain ⟨t, l', ht, hu, hl⟩ := stepN_withPast d a n s s.latch
  obtain rfl := hl rfl
  exact ⟨t, ht, hu⟩

end Sys2Proof.Machine

/-! What `MemRead` gives: its value and its refusals, how two neighbouring reads make one wider read, and the slice of
`DATA64` that a read of a full frame is (20_memory.md R52 to R54). -/

namespace Sys2Proof.Machine

/-! ### The value of a read and its refusals (R52) -/

theorem memRead_eq_leValue (f : Frame) {k n : Nat} (hn : n = 1 ∨ n = 2 ∨ n = 4) (h : k + n ≤ 8) :
    memRead f k n = some (leValue f k n h) :=
  dif_pos ⟨hn, h⟩

theorem memRead_eq_none (f : Frame) {k n : Nat} (h : ¬ ((n = 1 ∨ n = 2 ∨ n = 4) ∧ k + n ≤ 8)) :
    memRead f k n = none :=
  dif_neg h

/-- A request that is answered stays inside the payload, and its answer is the little-endian value. -/
theorem leValue_of_memRead {f : Frame} {k n v : Nat} (h : memRead f k n = some v) :
    ∃ hk : k + n ≤ 8, leValue f k n hk = v := by
  by_cases hc : (n = 1 ∨ n = 2 ∨ n = 4) ∧ k + n ≤ 8
  · obtain ⟨hn, hk⟩ := hc
    rw [memRead_eq_leValue f hn hk] at h
    exact ⟨hk, Option.some.inj h⟩
  · simp [memRead_eq_none f hc] at h

/-- Settles O11: the three widths by the sums of their bytes, and no other request passes the test of R52. -/
theorem memReadValues : Obligations.MemReadValues := by
  intro f
  refine ⟨fun k h => ?_, fun k h => ?_, fun k h => ?_, fun k n h => memRead_eq_none f (by omega)⟩
  · rw [memRead_eq_leValue f (by decide) h, leValue_one]
  · rw [memRead_eq_leValue f (by decide) h, leValue_two]
  · rw [memRead_eq_leValue f (by decide) h, leValue_four]

/-! ### Neighbouring reads make a wider one (R53) -/

/-- The value of m + n bytes is that of the first m and, 256^m times, that of the n bytes behind them. -/
theorem leValue_add (f : Frame) (k m : Nat) : ∀ (n : Nat) (h : k + (m + n) ≤ 8),
    leValue f k (m + n) h =
      leValue f k m (show k + m ≤ 8 by omega) + 256 ^ m * leValue f (k + m) n (show k + m + n ≤ 8 by omega)
  | 0, _ => by simp [leValue]
  | n + 1, h => by
    have ih := leValue_add f k m n (Nat.le_of_succ_le h)
    have hsum := leValue_succ f k (m + n) h
    rw [ih, Nat.pow_add] at hsum
    rw [leValue_succ f (k + m) n]
    simp only [Nat.add_assoc] at hsum ⊢
    rw [hsum]
    ring

/-- A read of twice the width, for the widths whose double R52 admits. -/
theorem memRead_double (f : Frame) {k n : Nat} (hn : n = 1 ∨ n = 2) (h : k + (n + n) ≤ 8) :
    ∃ a b, memRead f k n = some a ∧ memRead f (k + n) n = some b ∧ memRead f k (n + n) = some (a + 256 ^ n * b) :=
  ⟨_, _, memRead_eq_leValue f (by omega) (by omega), memRead_eq_leValue f (by omega) (by omega),
    leValue_add f k n n h ▸ memRead_eq_leValue f (by omega) h⟩

theorem memRead_two_eq_extU16 (f : Frame) (k : Offset 2) : memRead f k.val 2 = some (extU16 f k).toNat := by
  rw [extU16_toNat]
  exact memRead_eq_leValue f (by decide) _

/-- Settles O12, by the two doublings and the read behind EXT_U16. -/
theorem memReadWidthsAgree : Obligations.MemReadWidthsAgree := fun f =>
  ⟨fun _ h => memRead_double f (n := 2) (.inr rfl) h, fun _ h => memRead_double f (n := 1) (.inl rfl) h,
    memRead_two_eq_extU16 f 0, memRead_two_eq_extU16 f 2, memRead_two_eq_extU16 f 4, memRead_two_eq_extU16 f 6⟩

/-! ### Reads as slices of DATA64 (R54) -/

theorem dataByte_ofData64 (w : BitVec Config.dataWidth) (k : Fin 8) :
    dataByte (Payload.ofData64 w) k = w.extractLsb' (8 * k.val) 8 := by
  fin_cases k <;> rfl

/-- Byte k is bits 8k+7..8k of `DATA64`, by its round trip. -/
theorem data64_extractLsb' (d : Payload) (k : Fin 8) : d.data64.extractLsb' (8 * k.val) 8 = dataByte d k := by
  rw [← dataByte_ofData64, Payload.ofData64_data64]

/-- The payload view pads no byte of a full frame (R101). -/
theorem payloadView_of_full {f : Frame} (hl : 8 ≤ f.len.toNat) (k : Offset 1) : payloadView f k = dataByte f.data k := by
  have := Offset.val_lt_one k
  rw [payloadView_eq, if_neg (by omega)]

/-- A slice of n + 1 bytes is a slice of n bytes with one more byte above it. -/
theorem toNat_extractLsb'_succ_byte {w : Nat} (x : BitVec w) (k n : Nat) :
    (x.extractLsb' (8 * k) (8 * (n + 1))).toNat =
      (x.extractLsb' (8 * k) (8 * n)).toNat + (x.extractLsb' (8 * (k + n)) 8).toNat * 256 ^ n := by
  have hpow : 2 ^ (8 * n) = 256 ^ n := Nat.pow_mul ..
  simp only [BitVec.extractLsb'_toNat, Nat.mul_add, Nat.mul_one, Nat.pow_add, Nat.shiftRight_add]
  rw [Nat.mod_mul, Nat.shiftRight_eq_div_pow _ (8 * n), hpow, Nat.mul_comm (256 ^ n)]

theorem leValue_eq_slice {f : Frame} (hl : 8 ≤ f.len.toNat) (k : Nat) : ∀ (n : Nat) (h : k + n ≤ 8),
    leValue f k n h = (f.data.data64.extractLsb' (8 * k) (8 * n)).toNat
  | 0, _ => by simp [leValue, BitVec.of_length_zero]
  | n + 1, h => by
    have hbyte := data64_extractLsb' f.data ⟨k + n, h⟩
    rw [leValue_succ, leValue_eq_slice hl k n, payloadView_of_full hl, toNat_extractLsb'_succ_byte, ← hbyte]

/-- Settles O13, by the bytes of `DATA64` and, byte by byte, the slices of it. -/
theorem fieldsAreSlicesOfData64 : Obligations.FieldsAreSlicesOfData64 := by
  refine ⟨data64_extractLsb', fun f k n v hl hv => ?_⟩
  obtain ⟨hk, rfl⟩ := leValue_of_memRead hv
  exact leValue_eq_slice hl k n hk

end Sys2Proof.Machine

/-! The encoding: a frame, its port word, its byte image and its instruction hold the same information, and the opcode
table as data picks the row the decoder takes (30_encoding.md R70, R72, R80, R87). -/

namespace Sys2Proof

/-! ### The port word (R70, log 1) -/

@[simp] theorem Frame.ofPortWord_portWord (f : Frame) : Frame.ofPortWord f.portWord = f := by
  have hid : f.portWord.extractLsb' 0 32 = f.id := BitVec.extractLsb'_append_eq_right
  have hlen : f.portWord.extractLsb' 32 4 = f.len :=
    (BitVec.extractLsb'_append_eq_of_le (by decide)).trans BitVec.extractLsb'_append_eq_right
  have hdata : f.portWord.extractLsb' 36 64 = f.data.data64 :=
    (BitVec.extractLsb'_append_eq_of_le (by decide)).trans BitVec.extractLsb'_append_eq_left
  calc Frame.ofPortWord f.portWord
      = ⟨f.portWord.extractLsb' 0 32, f.portWord.extractLsb' 32 4,
          Payload.ofData64 (f.portWord.extractLsb' 36 64)⟩ := rfl
    _ = f := by rw [hid, hlen, hdata, Payload.ofData64_data64]

/-- Neighbouring slices of the word are one slice, and the whole slice is the word. -/
@[simp] theorem Frame.portWord_ofPortWord (w : PortWord) : (Frame.ofPortWord w).portWord = w := by
  have hlow : w.extractLsb' 36 64 ++ w.extractLsb' 32 4 = w.extractLsb' 32 68 :=
    BitVec.extractLsb'_append_extractLsb'_eq_extractLsb' rfl
  have hall : w.extractLsb' 32 68 ++ w.extractLsb' 0 32 = w.extractLsb' 0 100 :=
    BitVec.extractLsb'_append_extractLsb'_eq_extractLsb' rfl
  calc (Frame.ofPortWord w).portWord
      = (Payload.ofData64 (w.extractLsb' 36 64)).data64 ++ w.extractLsb' 32 4 ++ w.extractLsb' 0 32 := rfl
    _ = w.extractLsb' 0 100 := by rw [Payload.data64_ofData64, hlow, hall]
    _ = w := BitVec.extractLsb'_eq_self

/-- Settles O1, slice by slice. -/
theorem portWordHoldsTheFrame : Obligations.PortWordHoldsTheFrame :=
  ⟨Frame.ofPortWord_portWord, Frame.portWord_ofPortWord⟩

/-! ### The decoder, one rule per test of R72 -/

theorem decodeFrame_refuse {f : Frame} (hl : 8 < f.len.toNat) : decodeFrame f = .refuse f.id f.len f.data :=
  if_pos ((lenTooLong_iff _).mpr hl)

theorem decodeFrame_legal {f : Frame} (hl : f.len.toNat ≤ 8) : decodeFrame f =
    if f.id = Config.faultId then .fault f.len f.data
    else if idInRange f.id then decodeType (msgType f.id) f.len f.data
    else .drop f.id f.len f.data :=
  if_neg (mt (lenTooLong_iff _).mp (Nat.not_lt.mpr hl))

theorem decodeFrame_fault {f : Frame} (hl : f.len.toNat ≤ 8) (hid : f.id = Config.faultId) :
    decodeFrame f = .fault f.len f.data := by
  rw [decodeFrame_legal hl, if_pos hid]

theorem decodeFrame_type {f : Frame} (hl : f.len.toNat ≤ 8) (hid : f.id ≠ Config.faultId)
    (hr : 0xA0 ≤ f.id.toNat ∧ f.id.toNat ≤ 0xCF) : decodeFrame f = decodeType (msgType f.id) f.len f.data := by
  rw [decodeFrame_legal hl, if_neg hid, if_pos ((idInRange_iff _).mpr hr)]

theorem decodeFrame_drop {f : Frame} (hl : f.len.toNat ≤ 8) (hid : f.id ≠ Config.faultId)
    (hr : ¬ (0xA0 ≤ f.id.toNat ∧ f.id.toNat ≤ 0xCF)) : decodeFrame f = .drop f.id f.len f.data := by
  rw [decodeFrame_legal hl, if_neg hid, if_neg (mt (idInRange_iff _).mp hr)]

/-- FAULT_ID is one of the identifiers of the offset range, so what lies outside is not FAULT_ID (R82). -/
theorem ne_faultId_of_not_inRange {id : CanId} (hr : ¬ (0xA0 ≤ id.toNat ∧ id.toNat ≤ 0xCF)) :
    id ≠ Config.faultId := by
  rintro rfl
  exact hr (by decide)

theorem msgType_eq_ofNat {id : CanId} (hr : 0xA0 ≤ id.toNat ∧ id.toNat ≤ 0xCF) :
    msgType id = BitVec.ofNat 6 (id.toNat - 0xA0) := by
  rw [← msgType_toNat hr, BitVec.ofNat_toNat, BitVec.setWidth_eq]

/-- Settles O5, test by test. -/
theorem decodeOrderIsFixed : Obligations.DecodeOrderIsFixed := by
  refine fun f => ⟨decodeFrame_refuse, decodeFrame_fault, fun hl hid hlo hhi => ?_, fun hl hr => ?_⟩
  · rw [decodeFrame_type hl hid ⟨hlo, hhi⟩, msgType_eq_ofNat ⟨hlo, hhi⟩]
  · have hout : ¬ (0xA0 ≤ f.id.toNat ∧ f.id.toNat ≤ 0xCF) := by omega
    exact decodeFrame_drop hl (ne_faultId_of_not_inRange hout) hout

/-! ### Decoding and encoding are inverse (R72, R80) -/

theorem decodeType_unhandled08_09 (low : BitVec 1) (len : Len) (data : Payload) :
    decodeType (0x08#6 + low.setWidth 6) len data = .unhandled08_09 low len data := by
  obtain rfl | rfl := BitVec.eq_zero_or_eq_one low <;> rfl

theorem decodeType_unhandled0E_0F (low : BitVec 1) (len : Len) (data : Payload) :
    decodeType (0x0E#6 + low.setWidth 6) len data = .unhandled0E_0F low len data := by
  obtain rfl | rfl := BitVec.eq_zero_or_eq_one low <;> rfl

theorem decodeType_unhandled10_1F (low : BitVec 4) (len : Len) (data : Payload) :
    decodeType (0x10#6 + low.setWidth 6) len data = .unhandled10_1F low len data := by
  induction low using low4_cases with
  | hP n hn => interval_cases n <;> rfl

theorem decodeType_unhandled20_2F (low : BitVec 4) (len : Len) (data : Payload) :
    decodeType (0x20#6 + low.setWidth 6) len data = .unhandled20_2F low len data := by
  induction low using low4_cases with
  | hP n hn => interval_cases n <;> rfl

/-- A well-formed instruction of an offset row decodes by its type; the open bits of a row are the low bits of it. -/
theorem decodeFrame_encodeFrame {i : Instr} (h : i.wellFormed = true) : decodeFrame (encodeFrame i) = i := by
  cases i with
  | refuse id len data =>
    rw [Instr.wellFormed, ← lenTooLong_eq_not_legal, lenTooLong_iff] at h
    exact decodeFrame_refuse h
  | fault len data => exact decodeFrame_fault ((legal_iff len).mp h) rfl
  | temps1 len data => exact decodeFrame_typeFrame h (by decide) (by decide) data
  | temps2 len data => exact decodeFrame_typeFrame h (by decide) (by decide) data
  | temps3 len data => exact decodeFrame_typeFrame h (by decide) (by decide) data
  | motorPosition len data => exact decodeFrame_typeFrame h (by decide) (by decide) data
  | currents len data => exact decodeFrame_typeFrame h (by decide) (by decide) data
  | voltages len data => exact decodeFrame_typeFrame h (by decide) (by decide) data
  | internalStates len data => exact decodeFrame_typeFrame h (by decide) (by decide) data
  | torqueTimer len data => exact decodeFrame_typeFrame h (by decide) (by decide) data
  | unhandled03 len data => exact decodeFrame_typeFrame h (by decide) (by decide) data
  | unhandled04 len data => exact decodeFrame_typeFrame h (by decide) (by decide) data
  | unhandled08_09 low len data =>
    exact (decodeFrame_typeFrame h (by bv_omega) (by bv_omega) data).trans (decodeType_unhandled08_09 low len data)
  | unhandled0D len data => exact decodeFrame_typeFrame h (by decide) (by decide) data
  | unhandled0E_0F low len data =>
    exact (decodeFrame_typeFrame h (by bv_omega) (by bv_omega) data).trans (decodeType_unhandled0E_0F low len data)
  | unhandled10_1F low len data =>
    exact (decodeFrame_typeFrame h (by bv_omega) (by bv_omega) data).trans (decodeType_unhandled10_1F low len data)
  | unhandled20_2F low len data =>
    exact (decodeFrame_typeFrame h (by bv_omega) (by bv_omega) data).trans (decodeType_unhandled20_2F low len data)
  | drop id len data =>
    simp only [Instr.wellFormed, Bool.and_eq_true, Bool.not_eq_true', ← Bool.not_eq_true, legal_iff, inRange_iff,
      decide_eq_true_eq] at h
    obtain ⟨⟨hl, hr⟩, hid⟩ := h
    exact decodeFrame_drop hl hid hr

theorem wellFormed_decodeFrame (f : Frame) : (decodeFrame f).wellFormed = true := by
  by_cases hl : 8 < f.len.toNat
  · rwa [decodeFrame_refuse hl, Instr.wellFormed, ← lenTooLong_eq_not_legal, lenTooLong_iff]
  rw [not_lt] at hl
  have hlegal : Len.legal f.len = true := (legal_iff _).mpr hl
  by_cases hid : f.id = Config.faultId
  · rwa [decodeFrame_fault hl hid]
  by_cases hr : 0xA0 ≤ f.id.toNat ∧ f.id.toNat ≤ 0xCF
  · rwa [decodeFrame_type hl hid hr, wellFormed_decodeType (by rw [msgType_toNat hr]; omega)]
  · have hout : CanId.inRange f.id = false := Bool.eq_false_iff.mpr (mt (inRange_iff _).mp hr)
    simp [decodeFrame_drop hl hid hr, Instr.wellFormed, hlegal, hout, hid]

theorem decode_encode {i : Instr} (h : i.wellFormed = true) : decode (encode i) = i := by
  rw [decode, encode, Frame.ofPortWord_portWord, decodeFrame_encodeFrame h]

theorem encode_decode (w : PortWord) : encode (decode w) = w := by
  rw [encode, decode, Machine.encodeFrame_decodeFrame, Frame.portWord_ofPortWord]

/-- Settles O2: the word of the instruction's frame holds the frame, and the frame decodes to the instruction. -/
theorem decodeOfEncodeIsTheInstruction : Obligations.DecodeOfEncodeIsTheInstruction :=
  fun _ => decode_encode

/-- Settles O3: the decoded instruction has the length and identifier of its row, and its frame is the decoded one. -/
theorem everyWordIsOneWellFormedInstruction : Obligations.EveryWordIsOneWellFormedInstruction :=
  fun w => ⟨wellFormed_decodeFrame _, encode_decode w⟩

/-- Settles O9: each word is that of the instruction it should decode to. -/
theorem writtenOutWordsDecode : Obligations.WrittenOutWordsDecode :=
  ⟨decode_encode (i := .voltages 8#4 ⟨0x48#8, 0x0D#8, 0x64#8, 0x00#8, 0x38#8, 0xFF#8, 0xC8#8, 0x00#8⟩) rfl,
    decode_encode (i := .internalStates 8#4 ⟨0x06#8, 0x0A#8, 0x03#8, 0x01#8, 0x00#8, 0x00#8, 0x00#8, 0x00#8⟩) rfl,
    decode_encode (i := .fault 8#4 ⟨0x01#8, 0x80#8, 0x00#8, 0x80#8, 0x00#8, 0x00#8, 0x01#8, 0x00#8⟩) rfl,
    decode_encode (i := .refuse 0xA7#32 9#4 ⟨0xF4#8, 0x01#8, 0x00#8, 0x00#8, 0x00#8, 0x00#8, 0x00#8, 0x00#8⟩) rfl,
    decode_encode (i := .unhandled20_2F 0xF#4 8#4
      ⟨0x00#8, 0x00#8, 0x00#8, 0x00#8, 0x00#8, 0x00#8, 0x00#8, 0x00#8⟩) rfl⟩

/-! ### The byte image (log 1) -/

theorem decodeBytes_truncated {bs : List Byte} (h : bs.length < frameBytes) : decodeBytes bs = .error .truncated :=
  if_pos h

/-- The first 13 bytes alone tell whether the padding is clear and which word is decoded; the rest is handed back. -/
theorem decodeBytes_append {bs : List Byte} (h : bs.length = frameBytes) (rest : List Byte) :
    decodeBytes (bs ++ rest) = if 2 ^ Config.frameBits ≤ natOfBytes bs then .error .padding
      else .ok (decode (BitVec.ofNat Config.frameBits (natOfBytes bs)), rest) := by
  have hlong : ¬ (bs ++ rest).length < frameBytes := by
    rw [List.length_append]
    omega
  rw [decodeBytes, if_neg hlong, List.take_left' h, List.drop_left' h]

/-- 13 bytes hold the 100 bits of a word. -/
theorem natOfBytes_encodeBytes (i : Instr) : natOfBytes (encodeBytes i) = (encode i).toNat := by
  rw [encodeBytes, natOfBytes_bytesOfNat]
  exact Nat.mod_eq_of_lt ((encode i).isLt.trans (by decide : 2 ^ 100 < 256 ^ 13))

theorem decodeBytes_encodeBytes {i : Instr} (h : i.wellFormed = true) (rest : List Byte) :
    decodeBytes (encodeBytes i ++ rest) = .ok (i, rest) := by
  have hclear : ¬ 2 ^ Config.frameBits ≤ (encode i).toNat := Nat.not_le.mpr (encode i).isLt
  rw [decodeBytes_append (bs := encodeBytes i) (length_bytesOfNat ..), natOfBytes_encodeBytes,
    if_neg hclear, BitVec.ofNat_toNat, BitVec.setWidth_eq, decode_encode h]

/-- Settles O4, by what the first 13 bytes tell. -/
theorem byteImageRoundTripAndRejections : Obligations.ByteImageRoundTripAndRejections :=
  ⟨fun _ rest h => decodeBytes_encodeBytes h rest, fun _ => decodeBytes_truncated,
    fun _ rest hlen hpad => (decodeBytes_append hlen rest).trans (if_pos hpad)⟩

end Sys2Proof

/-! The opcode rows: the map of the offset range, the table as data against the decoder, and which identifier selects
which record kind (30_encoding.md R78, R80, R87). -/

namespace Sys2Proof

/-! ### The map of the offset range (R80) -/

/-- The row of a legal frame is that of the instruction whose identifier, length and payload it has. -/
theorem opcode_decodeFrame {f : Frame} {i : Instr} {id : CanId} (hf : encodeFrame i = ⟨id, f.len, f.data⟩)
    (hw : i.wellFormed = Len.legal f.len) (hl : f.len.toNat ≤ 8) (hid : f.id = id) :
    (decodeFrame f).opcode = i.opcode := by
  have hi : encodeFrame i = f := by rw [hf, ← hid]
  rw [← hi, decodeFrame_encodeFrame (by rwa [hw, legal_iff])]

theorem id_eq_typeFrame_id {f : Frame} {t : MsgType} (h : f.id.toNat = 0xA0 + t.toNat) :
    f.id = (typeFrame t f.len f.data).id :=
  BitVec.eq_of_toNat_eq (h.trans (typeFrame_id_toNat t f.len f.data).symm)

/-- Settles O6, row by row. -/
theorem opcodeMapOfTheOffsetRange : Obligations.OpcodeMapOfTheOffsetRange := by
  refine ⟨fun f hl => ⟨?_, ?_, ?_, ?_, ?_, ?_, ?_, ?_, ?_, ?_, ?_, ?_, ?_, ?_, ?_, ?_⟩, by decide, by decide⟩
  · exact opcode_decodeFrame (i := .temps1 f.len f.data) rfl rfl hl
  · exact opcode_decodeFrame (i := .temps2 f.len f.data) rfl rfl hl
  · exact opcode_decodeFrame (i := .temps3 f.len f.data) rfl rfl hl
  · exact opcode_decodeFrame (i := .unhandled03 f.len f.data) rfl rfl hl
  · exact opcode_decodeFrame (i := .unhandled04 f.len f.data) rfl rfl hl
  · exact opcode_decodeFrame (i := .motorPosition f.len f.data) rfl rfl hl
  · exact opcode_decodeFrame (i := .currents f.len f.data) rfl rfl hl
  · exact opcode_decodeFrame (i := .voltages f.len f.data) rfl rfl hl
  · exact fun h => h.elim (opcode_decodeFrame (i := .unhandled08_09 0#1 f.len f.data) rfl rfl hl)
      (opcode_decodeFrame (i := .unhandled08_09 1#1 f.len f.data) rfl rfl hl)
  · exact opcode_decodeFrame (i := .internalStates f.len f.data) rfl rfl hl
  · exact opcode_decodeFrame (i := .fault f.len f.data) rfl rfl hl
  · exact opcode_decodeFrame (i := .torqueTimer f.len f.data) rfl rfl hl
  · exact opcode_decodeFrame (i := .unhandled0D f.len f.data) rfl rfl hl
  · exact fun h => h.elim (opcode_decodeFrame (i := .unhandled0E_0F 0#1 f.len f.data) rfl rfl hl)
      (opcode_decodeFrame (i := .unhandled0E_0F 1#1 f.len f.data) rfl rfl hl)
  · exact fun hlo hhi => opcode_decodeFrame (i := .unhandled10_1F (f.id.setWidth 4) f.len f.data) rfl rfl hl
      (id_eq_typeFrame_id (by bv_omega))
  · exact fun hlo hhi => opcode_decodeFrame (i := .unhandled20_2F (f.id.setWidth 4) f.len f.data) rfl rfl hl
      (id_eq_typeFrame_id (by bv_omega))

/-! ### The rows of the table as data (R87) -/

/-- Two rows that match one identifier agree where both masks look. -/
theorem patterns_agree {id a b ma mb : CanId} (ha : id &&& ma = a) (hb : id &&& mb = b) : a &&& mb = b &&& ma := by
  rw [← ha, ← hb, BitVec.and_assoc, BitVec.and_assoc, BitVec.and_comm ma]

theorem opcodeTable_disjoint {id : CanId} {a b : OpcodeRow} (ha : a ∈ opcodeTable) (hb : b ∈ opcodeTable)
    (hma : a.mask ≠ 0#32) (hmb : b.mask ≠ 0#32) (hia : id &&& a.mask = a.pattern) (hib : id &&& b.mask = b.pattern) :
    a = b := by
  have hagree : ∀ a ∈ opcodeTable, ∀ b ∈ opcodeTable, a.mask ≠ 0#32 → b.mask ≠ 0#32 →
      a.pattern &&& b.mask = b.pattern &&& a.mask → a = b := by decide
  exact hagree a ha b hb hma hmb (patterns_agree hia hib)

theorem opcodeTable_priority_le_drop :
    ∀ a ∈ opcodeTable, ∀ d ∈ opcodeTable, d.op = .drop → a.priority ≤ d.priority := by
  decide

theorem opcodeTable_priority_inj : ∀ a ∈ opcodeTable, ∀ b ∈ opcodeTable, a.priority = b.priority → a = b := by
  decide

/-- The identifiers 0 and `FFFFFFFF` match only a row that looks at no bit. -/
theorem matches_all_iff (mask pattern : CanId) :
    (∀ id : CanId, id &&& mask = pattern) ↔ mask = 0#32 ∧ pattern = 0#32 := by
  constructor
  · intro h
    have hzero : pattern = 0#32 := (h 0#32).symm.trans BitVec.zero_and
    have hones : mask = pattern := BitVec.allOnes_and.symm.trans (h (BitVec.allOnes 32))
    exact ⟨hones.trans hzero, hzero⟩
  · rintro ⟨rfl, rfl⟩ id
    exact BitVec.and_zero

/-- Settles O8: rows that match one identifier agree under both masks, and the rest is read off the table. -/
theorem opcodeRowsAreDisjoint : Obligations.OpcodeRowsAreDisjoint := by
  refine ⟨fun _ _ _ => opcodeTable_disjoint, fun a ha => ?_, by decide,
    fun a d ha hd => opcodeTable_priority_le_drop a ha d hd, fun a b ha hb => opcodeTable_priority_inj a ha b hb⟩
  rw [matches_all_iff]
  revert a
  decide

/-! ### The table against the decoder (R87) -/

/-- The better of two rows is one of them, and neither has a lower priority number. -/
theorem OpcodeRow.better_cases (a b : OpcodeRow) :
    (a.better b = a ∧ a.priority ≤ b.priority) ∨ (a.better b = b ∧ b.priority ≤ a.priority) := by
  unfold OpcodeRow.better
  split_ifs with h
  · exact .inr ⟨rfl, h.le⟩
  · exact .inl ⟨rfl, not_lt.mp h⟩

/-- A list with a row in it has a row of lowest priority number. -/
theorem lowestPriority_of_mem {r : OpcodeRow} : ∀ {rs : List OpcodeRow}, r ∈ rs →
    ∃ b ∈ rs, lowestPriority rs = some b ∧ ∀ a ∈ rs, b.priority ≤ a.priority
  | [x], _ => ⟨x, by simp [lowestPriority]⟩
  | x :: y :: rs, _ => by
    obtain ⟨b, hb, hlow, hmin⟩ := lowestPriority_of_mem (List.mem_cons_self : y ∈ y :: rs)
    have heq : lowestPriority (x :: y :: rs) = some (x.better b) := by rw [lowestPriority, hlow]
    rw [heq]
    obtain ⟨hx, hle⟩ | ⟨hx, hle⟩ := x.better_cases b
    · exact ⟨x, List.mem_cons_self, by rw [hx], List.forall_mem_cons.mpr ⟨le_rfl, fun a ha => hle.trans (hmin a ha)⟩⟩
    · exact ⟨b, List.mem_cons_of_mem _ hb, by rw [hx], List.forall_mem_cons.mpr ⟨hle, hmin⟩⟩

/-- Priority numbers are unique, so the applicable row of lowest number is the one looked up. -/
theorem tableLookup_eq {f : Frame} {r : OpcodeRow} (hr : r ∈ opcodeTable) (happ : r.applies f = true)
    (hmin : ∀ a ∈ opcodeTable, a.applies f = true → r.priority ≤ a.priority) : tableLookup f = some r.op := by
  have hrf : r ∈ opcodeTable.filter (·.applies f) := List.mem_filter.mpr ⟨hr, happ⟩
  obtain ⟨b, hb, hlow, hle⟩ := lowestPriority_of_mem hrf
  obtain ⟨hbt, hbapp⟩ := List.mem_filter.mp hb
  have hprio : b.priority = r.priority := le_antisymm (hle r hrf) (hmin b hbt hbapp)
  obtain rfl : b = r := opcodeTable_priority_inj b hbt r hr hprio
  rw [tableLookup, hlow, Option.map_some]

/-- The frame of a well-formed instruction matches its row (R87), one case per constructor. -/
theorem encodeFrame_matches_row (i : Instr) : Laws.RowMatch.Statement i := by
  cases i with
  | refuse id len data => exact Laws.RowMatch.refuse id len data
  | fault len data => exact Laws.RowMatch.fault len data
  | temps1 len data => exact Laws.RowMatch.temps1 len data
  | temps2 len data => exact Laws.RowMatch.temps2 len data
  | temps3 len data => exact Laws.RowMatch.temps3 len data
  | motorPosition len data => exact Laws.RowMatch.motorPosition len data
  | currents len data => exact Laws.RowMatch.currents len data
  | voltages len data => exact Laws.RowMatch.voltages len data
  | internalStates len data => exact Laws.RowMatch.internalStates len data
  | torqueTimer len data => exact Laws.RowMatch.torqueTimer len data
  | unhandled03 len data => exact Laws.RowMatch.unhandled03 len data
  | unhandled04 len data => exact Laws.RowMatch.unhandled04 len data
  | unhandled08_09 low len data => exact Laws.RowMatch.unhandled08_09 low len data
  | unhandled0D len data => exact Laws.RowMatch.unhandled0D len data
  | unhandled0E_0F low len data => exact Laws.RowMatch.unhandled0E_0F low len data
  | unhandled10_1F low len data => exact Laws.RowMatch.unhandled10_1F low len data
  | unhandled20_2F low len data => exact Laws.RowMatch.unhandled20_2F low len data
  | drop id len data => exact Laws.RowMatch.drop id len data

/-- A row with a pattern looks at the upper 28 bits at least, so it matches identifiers of the offset range only. -/
theorem inRange_of_pattern_row {id : CanId} {a : OpcodeRow} (ha : a ∈ opcodeTable) (hma : a.mask ≠ 0#32)
    (hia : id &&& a.mask = a.pattern) : 0xA0 ≤ id.toNat ∧ id.toNat ≤ 0xCF := by
  have htable : ∀ a ∈ opcodeTable, a.mask ≠ 0#32 → a.mask >>> 4 = BitVec.allOnes 32 >>> 4 ∧
      0xA ≤ (a.pattern >>> 4).toNat ∧ (a.pattern >>> 4).toNat ≤ 0xC := by decide
  obtain ⟨hmask, hlo, hhi⟩ := htable a ha hma
  have hshift : id >>> 4 = a.pattern >>> 4 := by
    rw [← hia, BitVec.ushiftRight_and_distrib, hmask, ← BitVec.ushiftRight_and_distrib, BitVec.and_allOnes]
  rw [← hshift, BitVec.toNat_ushiftRight, Nat.shiftRight_eq_div_pow] at hlo hhi
  omega

theorem Instr.eq_drop_of_opcode {i : Instr} (h : i.opcode = .drop) : ∃ id len data, i = .drop id len data := by
  cases i
  case drop id len data => exact ⟨id, len, data, rfl⟩
  all_goals cases h

/-- Only an identifier outside the offset range decodes to DROP (R84). -/
theorem not_inRange_of_opcode_drop {f : Frame} (h : (decodeFrame f).opcode = .drop) :
    ¬ (0xA0 ≤ f.id.toNat ∧ f.id.toNat ≤ 0xCF) := by
  obtain ⟨id, len, data, hi⟩ := Instr.eq_drop_of_opcode h
  have hf := Machine.encodeFrame_decodeFrame f
  have hw := wellFormed_decodeFrame f
  rw [hi] at hf hw
  subst hf
  simp only [Instr.wellFormed, Bool.and_eq_true, Bool.not_eq_true', ← Bool.not_eq_true, inRange_iff] at hw
  obtain ⟨⟨-, hr⟩, -⟩ := hw
  exact hr

/-- No row that applies to a frame is before the decoded instruction's row: REFUSE's is the first, DROP's the last, and
a row with a pattern is the only one with a pattern that applies. -/
theorem decoded_row_priority_le {f : Frame} {r a : OpcodeRow} (hr : r ∈ opcodeTable) (ha : a ∈ opcodeTable)
    (hop : r.op = (decodeFrame f).opcode) (hrf : r.applies f = true) (haf : a.applies f = true) :
    r.priority ≤ a.priority := by
  have hrefuse : ∀ r ∈ opcodeTable, r.long = true → r.priority = 0 := by decide
  have hdrop : ∀ a ∈ opcodeTable, a.long = false → a.mask = 0#32 → a.op = .drop := by decide
  obtain ⟨hrid, hrlen⟩ := (r.applies_iff f).mp hrf
  obtain ⟨haid, halen⟩ := (a.applies_iff f).mp haf
  cases hlong : lenTooLong f.len with
  | true =>
    rw [hrefuse r hr (hrlen.trans hlong)]
    exact Nat.zero_le _
  | false =>
    by_cases hma : a.mask = 0#32
    · exact opcodeTable_priority_le_drop r hr a ha (hdrop a ha (halen.trans hlong) hma)
    · have hmr : r.mask ≠ 0#32 := fun hmr =>
        not_inRange_of_opcode_drop (hop ▸ hdrop r hr (hrlen.trans hlong) hmr) (inRange_of_pattern_row ha hma haid)
      rw [opcodeTable_disjoint hr ha hmr hma hrid haid]

/-- Settles O7: the decoded instruction's row applies to its frame, and no row before it does. -/
theorem opcodeTableAgreesWithDecoder : Obligations.OpcodeTableAgreesWithDecoder := by
  intro f
  obtain ⟨r, hr, hop, happ⟩ := encodeFrame_matches_row (decodeFrame f) (wellFormed_decodeFrame f)
  rw [Machine.encodeFrame_decodeFrame] at happ
  rw [← hop]
  exact tableLookup_eq hr happ fun a ha haf => decoded_row_priority_le hr ha hop happ haf

end Sys2Proof

namespace Sys2Proof.Machine

/-! ### Which identifier selects which kind (R78) -/

/-- The identifier that selects a kind (R78); no one identifier selects UNHANDLED, and 0 stands for it. -/
def RecordKind.canId : RecordKind → CanId
  | .FAULT => 0xAB#32
  | .TEMPS_1 => 0xA0#32
  | .TEMPS_2 => 0xA1#32
  | .TEMPS_3 => 0xA2#32
  | .MOTOR_POSITION => 0xA5#32
  | .CURRENTS => 0xA6#32
  | .VOLTAGES => 0xA7#32
  | .INTERNAL_STATES => 0xAA#32
  | .TORQUE_TIMER => 0xAC#32
  | .UNHANDLED => 0#32

/-- A dispatched body has the kind its type's identifier selects, line by line of `DISPATCH` (R184). -/
theorem toNat_canId_dispatchBody {t : MsgType} {f : Frame} (h : (dispatchBody t f).kind ≠ .UNHANDLED) :
    (dispatchBody t f).kind.canId.toNat = 0xA0 + t.toNat := by
  unfold dispatchBody at h ⊢
  split at h
  case h_9 => exact absurd rfl h
  all_goals exact congrArg (0xA0 + ·) ‹t.toNat = _›.symm

/-- The identifier of a kind other than FAULT has a type that is dispatched to that kind (R82, R184). -/
theorem dispatchBody_kind {t : MsgType} {k : RecordKind} (hb : t.toNat ≠ 0x0B) (hk : k ≠ .UNHANDLED)
    (h : k.canId.toNat = 0xA0 + t.toNat) (f : Frame) : (dispatchBody t f).kind = k := by
  obtain rfl : t = BitVec.ofNat 6 (k.canId.toNat - 0xA0) := by simp [h]
  cases k
  case UNHANDLED => exact absurd rfl hk
  case FAULT => exact absurd rfl hb
  all_goals rfl

/-- A record is FAULT's under FAULT_ID, and else the one its identifier's type is dispatched to (R180). -/
theorem routeFrame_record_id_cases {f : Frame} {r : Record} (h : routeFrame f = .record r) :
    (f.id = Config.faultId ∧ r = mkRecord f (faultBody f)) ∨
      (f.id ≠ Config.faultId ∧ (0xA0 ≤ f.id.toNat ∧ f.id.toNat ≤ 0xCF) ∧
        r = mkRecord f (dispatchBody (msgType f.id) f)) := by
  have hl : f.len.toNat ≤ 8 := by
    by_contra hl
    rw [routeFrame_refused (not_le.mp hl)] at h
    cases h
  by_cases hid : f.id = Config.faultId
  · rw [routeFrame_fault hl hid] at h
    exact .inl ⟨hid, (DecodeResult.record.inj h).symm⟩
  by_cases hr : 0xA0 ≤ f.id.toNat ∧ f.id.toNat ≤ 0xCF
  · rw [routeFrame_dispatch hl hid hr] at h
    exact .inr ⟨hid, hr, (DecodeResult.record.inj h).symm⟩
  · rw [routeFrame_dropped hl hid hr] at h
    cases h

theorem record_kind_iff {f : Frame} {r : Record} (h : routeFrame f = .record r) {k : RecordKind}
    (hk : k ≠ .UNHANDLED) : r.kind = k ↔ f.id = k.canId := by
  obtain ⟨hid, rfl⟩ | ⟨hid, hr, rfl⟩ := routeFrame_record_id_cases h
  · rw [hid]
    change RecordKind.FAULT = k ↔ 0xAB#32 = k.canId
    cases k <;> decide
  · have hsum : f.id.toNat = 0xA0 + (msgType f.id).toNat := by
      rw [msgType_toNat hr]
      omega
    rw [← BitVec.toNat_inj, hsum]
    change (dispatchBody (msgType f.id) f).kind = k ↔ _
    constructor
    · rintro rfl
      exact (toNat_canId_dispatchBody hk).symm
    · exact fun hc => dispatchBody_kind (msgType_ne_shadowed hid hr) hk hc.symm f

theorem ofCode_code (k : RecordKind) : RecordKind.ofCode k.code = some k := by
  cases k <;> rfl

/-- Settles O40: the codes by their table, and each kind by the identifier that selects it. -/
theorem kindCodes : Obligations.KindCodes := by
  refine ⟨rfl, ofCode_code, by decide, fun f r h => ?_⟩
  have hsel : ∀ k : RecordKind, k ≠ .UNHANDLED → (r.kind = k ↔ f.id = k.canId) := fun _ => record_kind_iff h
  exact ⟨hsel .FAULT nofun, hsel .TEMPS_1 nofun, hsel .TEMPS_2 nofun, hsel .TEMPS_3 nofun, hsel .MOTOR_POSITION nofun,
    hsel .CURRENTS nofun, hsel .VOLTAGES nofun, hsel .INTERNAL_STATES nofun, hsel .TORQUE_TIMER nofun⟩

end Sys2Proof.Machine

/-! The field extractor: the payload view, the values of its extractors and scaled decoders, the length warning, and the
bytes no decode reads (41_field_extractor.md R101 to R112, 44_router_dispatch.md R194). -/

namespace Sys2Proof.Machine

/-! ### The payload view (R101) -/

theorem payloadViewUnder_of_lt (policy : Config.ShortFramePolicy) (draw : Nat) {f : Frame} {k : Offset 1}
    (h : k.val < f.len.toNat) : payloadViewUnder policy draw f k = dataByte f.data k :=
  if_neg (Nat.not_le.mpr h)

theorem payloadViewUnder_zeroPad_of_le (draw : Nat) {f : Frame} {k : Offset 1} (h : f.len.toNat ≤ k.val) :
    payloadViewUnder .zeroPad draw f k = 0#8 :=
  if_pos h

/-- `ZERO_PAD` is the policy taken, and no number of the frame changes what it reads. -/
theorem payloadView_eq_payloadViewUnder (draw : Nat) (f : Frame) (k : Offset 1) :
    payloadView f k = payloadViewUnder Config.shortFramePolicy draw f k := rfl

/-- Settles O10: the two sides of LEN under a policy, and the policy taken. -/
theorem payloadViewZeroPads : Obligations.PayloadViewZeroPads :=
  ⟨fun draw _ _ => payloadViewUnder_zeroPad_of_le draw, fun policy draw _ _ => payloadViewUnder_of_lt policy draw,
    fun draw f k => ⟨payloadView_eq_payloadViewUnder draw f k, payloadView_eq f k⟩⟩

/-! ### The raw extractors (R104 to R107) -/

theorem extS16_eq_signedOf (f : Frame) (k : Offset 2) : extS16 f k = signedOf (extU16 f k).toNat :=
  sext16_eq (extU16 f k)

/-- Settles O14: no extractor truncates its little-endian value, and only EXT_S16 extends a sign. -/
theorem rawExtractorValues : Obligations.RawExtractorValues := by
  intro f
  refine ⟨fun k => ?_, fun k => ?_, extS16_eq_signedOf f, fun k => sext16_range (extU16 f k), fun k => ?_⟩
  · rw [extU8_eq]
  · rw [extU16_toNat, leValue_two]
  · exact (extU32_toNat f k).trans (leValue_four f k.val _)

/-! ### The scaled decoders (R103, R108 to R112) -/

theorem Divisor.toNat_ne_zero (d : Divisor) : d.toNat ≠ 0 := by
  cases d <;> decide

theorem decSignedScaled_value (f : Frame) (k : Offset 2) (d : Divisor) (u : UnitTag) :
    (decSignedScaled f k d u).value = (extS16 f k : Rat) / (d.toNat : Rat) := rfl

/-- A divisor of 1 leaves the integer as it is. -/
theorem decAngularVelocity_value (f : Frame) (k : Offset 2) : (decAngularVelocity f k).value = (extS16 f k : Rat) := by
  simp [Signal.value, decAngularVelocity, Divisor.toNat]

/-- An unsigned byte is positive exactly when it is not 0 (D12). -/
theorem decBoolean_iff (f : Frame) (k : Offset 1) : decBoolean f k = true ↔ payloadView f k ≠ 0x00#8 := by
  rw [decBoolean, decide_eq_true_iff, extU8_eq, Nat.pos_iff_ne_zero]
  exact not_congr (BitVec.toNat_inj (y := 0x00#8))

/-- Settles O15: the records by their fields, the values by the numbers of the divisors. -/
theorem scaledDecoderValues : Obligations.ScaledDecoderValues := fun f =>
  ⟨fun _ _ _ => ⟨rfl, rfl, rfl⟩, fun k u => ⟨decSignedScaled_value f k .std u, decSignedScaled_value f k .lv u⟩,
    fun k => ⟨rfl, decAngularVelocity_value f k⟩, fun _ => ⟨rfl, rfl⟩, decBoolean_iff f⟩

/-- The value of a tick count is the rational quotient of its two fields. -/
theorem ticksToSeconds_value (t : BitVec 32) : (ticksToSeconds t).value = (3 * t.toNat : Rat) / 1000 := by
  simp [Elapsed.value, ticksToSeconds]

/-- Settles O16: a tick count is below 2^32, so three times it is below 2^34. -/
theorem ticksToSecondsIsExact : Obligations.TicksToSecondsIsExact := by
  refine fun t => ⟨rfl, ticksToSeconds_value t, ?_⟩
  have ht : t.toNat < 2 ^ 32 := t.isLt
  change 3 * t.toNat < 2 ^ 34
  omega

/-- No divisor is 0, so nothing is lost in the quotient (R103). -/
theorem Signal.value_mul_div (x : Signal) : x.value * (x.div.toNat : Rat) = (x.raw : Rat) :=
  div_mul_cancel₀ _ (Nat.cast_ne_zero.mpr x.div.toNat_ne_zero)

theorem Signal.value_neg_raw (x : Signal) : ({ x with raw := -x.raw } : Signal).value = -x.value := by
  simp only [Signal.value, Int.cast_neg, neg_div]

/-- Settles O17, by the two rules of a signal's value. -/
theorem scalingIsExactAndCommutesWithNegation : Obligations.ScalingIsExactAndCommutesWithNegation :=
  fun x => ⟨x.value_mul_div, x.value_neg_raw⟩

/-! ### The length warning (R102) -/

theorem routeFrame_record_short {f : Frame} {r : Record} (h : routeFrame f = .record r) :
    r.short = shortFlag r.kind f.len := by
  obtain rfl | ⟨t, -, -, rfl⟩ := routeFrame_record_cases h <;> rfl

theorem req_eq_eight {k : RecordKind} (hi : k ≠ .INTERNAL_STATES) (hu : k ≠ .UNHANDLED) : req k = 8 := by
  cases k
  case INTERNAL_STATES => exact absurd rfl hi
  case UNHANDLED => exact absurd rfl hu
  all_goals rfl

/-- Settles O39: the flag of a record compares LEN with the REQ of its kind. -/
theorem shortFlagOfEveryRecord : Obligations.ShortFlagOfEveryRecord := by
  intro f r h
  rw [routeFrame_record_short h]
  refine ⟨fun hk => ?_, fun hk => ?_, fun hi hu => ?_⟩
  · rw [hk, shortFlag, req]
  · rw [hk, shortFlag_unhandled]
  · rw [shortFlag, req_eq_eight hi hu]

/-! ### Bytes that are not read (R101, R194) -/

/-- The view at an index needs the two payloads to agree there only when the index is below LEN. -/
theorem payloadView_congr {f g : Frame} {k : Offset 1} (hlen : f.len = g.len)
    (h : k.val < f.len.toNat → dataByte f.data k = dataByte g.data k) : payloadView f k = payloadView g k := by
  rw [payloadView_eq, payloadView_eq, ← hlen]
  split_ifs with hk
  · rfl
  · exact h (not_le.mp hk)

/-- INTERNAL_STATES reads bytes 0 to 3 alone (R194). -/
theorem internalStatesBody_congr {f g : Frame} (h : ∀ k : Fin 8, k.val < 4 → payloadView f k = payloadView g k) :
    internalStatesBody f = internalStatesBody g := by
  simp only [internalStatesBody, extU8_eq, h 0 (by decide), h 1 (by decide), h 2 (by decide), h 3 (by decide)]

section
variable {f g : Frame} (h : ∀ k : Fin 8, payloadView f k = payloadView g k)
include h

theorem leValue_congr (k : Nat) : ∀ (n : Nat) (hk : k + n ≤ 8), leValue f k n hk = leValue g k n hk
  | 0, _ => rfl
  | n + 1, hk => by rw [leValue_succ, leValue_succ, leValue_congr k n, h]

theorem extU16_congr (k : Offset 2) : extU16 f k = extU16 g k :=
  congrArg (BitVec.ofNat 16) (leValue_congr h k.val 2 _)

theorem extU32_congr (k : Offset 4) : extU32 f k = extU32 g k :=
  congrArg (BitVec.ofNat 32) (leValue_congr h k.val 4 _)

theorem extS16_congr (k : Offset 2) : extS16 f k = extS16 g k :=
  congrArg sext16 (extU16_congr h k)

theorem decSignedScaled_congr (k : Offset 2) (d : Divisor) (u : UnitTag) :
    decSignedScaled f k d u = decSignedScaled g k d u := by
  rw [decSignedScaled, decSignedScaled, extS16_congr h]

theorem decAngularVelocity_congr (k : Offset 2) : decAngularVelocity f k = decAngularVelocity g k := by
  rw [decAngularVelocity, decAngularVelocity, extS16_congr h]

theorem faultBody_congr : faultBody f = faultBody g := by
  simp only [faultBody, extU16_congr h]

/-- One case per line of `DISPATCH` (R184): every schema reads the payload view through the decoders. -/
theorem dispatchBody_congr (t : MsgType) : dispatchBody t f = dispatchBody t g := by
  unfold dispatchBody
  split
  · simp only [temps1Body, decSignedScaled_congr h]
  · simp only [temps2Body, decSignedScaled_congr h]
  · simp only [temps3Body, decSignedScaled_congr h]
  · simp only [motorPositionBody, decSignedScaled_congr h, decAngularVelocity_congr h]
  · simp only [currentsBody, decSignedScaled_congr h]
  · simp only [voltagesBody, decSignedScaled_congr h]
  · exact internalStatesBody_congr fun k _ => h k
  · simp only [torqueTimerBody, decSignedScaled_congr h, extU32_congr h]
  · rfl

end

theorem mkRecord_congr {f g : Frame} {b c : Body} (hlen : f.len = g.len) (hb : b = c) :
    mkRecord f b = mkRecord g c := by
  rw [mkRecord, mkRecord, hlen, hb]

/-- Of two frames with the same identifier and length the router compares only the body it picks (R180). -/
theorem routeFrame_congr {f g : Frame} (hid : f.id = g.id) (hlen : f.len = g.len)
    (hfault : f.id = Config.faultId → faultBody f = faultBody g)
    (hdisp : dispatchBody (msgType f.id) f = dispatchBody (msgType f.id) g) : routeFrame f = routeFrame g := by
  by_cases hl : 8 < f.len.toNat
  · rw [routeFrame_refused hl, routeFrame_refused (hlen ▸ hl)]
  rw [not_lt] at hl
  by_cases hf : f.id = Config.faultId
  · rw [routeFrame_fault hl hf, routeFrame_fault (hlen ▸ hl) (hid ▸ hf), mkRecord_congr hlen (hfault hf)]
  by_cases hr : 0xA0 ≤ f.id.toNat ∧ f.id.toNat ≤ 0xCF
  · rw [routeFrame_dispatch hl hf hr, routeFrame_dispatch (hlen ▸ hl) (hid ▸ hf) (hid ▸ hr), ← hid,
      mkRecord_congr hlen hdisp]
  · rw [routeFrame_dropped hl hf hr, routeFrame_dropped (hlen ▸ hl) (hid ▸ hf) (hid ▸ hr)]

theorem routeFrame_congr_of_payloadView {f g : Frame} (hid : f.id = g.id) (hlen : f.len = g.len)
    (h : ∀ k : Fin 8, payloadView f k = payloadView g k) : routeFrame f = routeFrame g :=
  routeFrame_congr hid hlen (fun _ => faultBody_congr h) (dispatchBody_congr h _)

/-- The identifier 0xAA is of type 0x0A, and FAULT's is another one. -/
theorem routeFrame_congr_of_internalStates {f g : Frame} (hs : f.id = 0xAA#32) (hid : f.id = g.id)
    (hlen : f.len = g.len) (h : ∀ k : Fin 8, k.val < 4 → payloadView f k = payloadView g k) :
    routeFrame f = routeFrame g := by
  refine routeFrame_congr hid hlen (fun hf => absurd (hs.symm.trans hf) (by decide)) ?_
  rw [hs]
  exact internalStatesBody_congr h

/-- Settles O42: the view hides the bytes at or above LEN, and the decode reads the view. -/
theorem unreadBytesDoNotMatter : Obligations.UnreadBytesDoNotMatter :=
  ⟨fun _ _ hid hlen h => routeFrame_congr_of_payloadView hid hlen fun k => payloadView_congr hlen (h k),
    fun _ _ hs hid hlen h =>
      routeFrame_congr_of_internalStates hs hid hlen fun k hk => payloadView_congr hlen fun _ => h k hk⟩

end Sys2Proof.Machine

/-! The labels of the two state enumerations, code by code (42_state_enumerators.md R131 to R133). -/

namespace Sys2Proof.Machine

/-- The listed codes are 0 to 7, 14 and 15; the last row of the table takes all others (R131). -/
theorem vsmLabel_eq_unknown {c : BitVec 8} (hc : (8 ≤ c.toNat ∧ c.toNat ≤ 13) ∨ 16 ≤ c.toNat) :
    vsmLabel c = .UNKNOWN := by
  unfold vsmLabel vsmTable
  split
  case h_11 => rfl
  all_goals omega

/-- The listed codes are 0 to 4, 8 and 9; the last row of the table takes all others (R133). -/
theorem invLabel_eq_unknown {c : BitVec 8} (hc : (5 ≤ c.toNat ∧ c.toNat ≤ 7) ∨ 10 ≤ c.toNat) :
    invLabel c = .UNKNOWN := by
  unfold invLabel invTable
  split
  case h_8 => rfl
  all_goals omega

/-- Settles O18: the listed codes row by row, and no other code has a row of its own. -/
theorem vsmLabelOfEveryCode : Obligations.VsmLabelOfEveryCode :=
  ⟨rfl, rfl, rfl, rfl, rfl, rfl, rfl, rfl, rfl, rfl, fun _ => vsmLabel_eq_unknown⟩

/-- Settles O19: the listed codes row by row, and no other code has a row of its own. -/
theorem invLabelOfEveryCode : Obligations.InvLabelOfEveryCode :=
  ⟨rfl, rfl, rfl, rfl, rfl, rfl, rfl, fun _ => invLabel_eq_unknown⟩

end Sys2Proof.Machine

/-! The fault words: the vector FAULT_TEST triggers, the catalog, and the names of a vector's set bits
(43_fault_decoder.md R153 to R159). -/

namespace Sys2Proof.Machine

/-! ### The triggered vector (R153, R154) -/

/-- Settles O20: the vector is the concatenation, and the bits are those of a concatenation. -/
theorem faultVectorIsHiThenLo : Obligations.FaultVectorIsHiThenLo := by
  refine fun lo hi => ⟨fun i _ => ?_, faultTest_eq_append lo hi⟩
  rw [faultTest_eq_append, BitVec.getLsbD_append]

/-! ### The catalog (R155) -/

theorem catalog_nodup : catalog.Nodup := by decide

/-- Settles O23, entry by entry. -/
theorem catalogHas32Names : Obligations.CatalogHas32Names :=
  ⟨rfl, catalog_nodup, rfl⟩

/-- The entries at the indices of R153's loop are the whole catalog, in order. -/
theorem filterMap_catalog_range : (List.range 32).filterMap (catalog[·]?) = catalog := rfl

theorem exists_catalog_entry {i : Nat} (hi : i < 32) : ∃ n, catalog[i]? = some n :=
  ⟨catalog[i], List.getElem?_eq_getElem hi⟩

/-- No two entries of the catalog are the same name. -/
theorem catalog_index_unique {i j : Nat} {n : FaultName} (hi : catalog[i]? = some n) (hj : catalog[j]? = some n) :
    i = j :=
  (List.getElem?_inj (List.getElem?_eq_some_iff.mp hi).1 catalog_nodup).mp (hi.trans hj.symm)

/-! ### The names of the set bits (R156, R159) -/

/-- R156 in two parts: the indices of the set bits, ascending, and the catalog's entries there. -/
theorem faultNames_eq_filterMap_filter (vec : FaultVec) :
    faultNames vec = ((List.range 32).filter fun i => vec.getLsbD i).filterMap (catalog[·]?) :=
  List.filterMap_filter.symm

theorem mem_faultNames_iff {vec : FaultVec} {i : Nat} (hi : i < 32) {n : FaultName} (hn : catalog[i]? = some n) :
    n ∈ faultNames vec ↔ vec.getLsbD i = true := by
  simp only [faultNames_eq_filterMap_filter, List.mem_filterMap, List.mem_filter, List.mem_range]
  constructor
  · rintro ⟨j, ⟨-, hbit⟩, hj⟩
    rwa [catalog_index_unique hn hj]
  · exact fun hbit => ⟨i, ⟨hi, hbit⟩, hn⟩

theorem faultNames_sublist_catalog (vec : FaultVec) : (faultNames vec).Sublist catalog := by
  have hsub : ((List.range 32).filter fun i => vec.getLsbD i).Sublist (List.range 32) := List.filter_sublist
  have hnames := hsub.filterMap (catalog[·]?)
  rwa [← faultNames_eq_filterMap_filter, filterMap_catalog_range] at hnames

/-- Every set bit has an entry in the catalog, so none is lost. -/
theorem length_faultNames (vec : FaultVec) :
    (faultNames vec).length = ((List.range 32).filter fun i => vec.getLsbD i).length := by
  rw [faultNames_eq_filterMap_filter, List.length_filterMap_eq_countP, List.countP_eq_length]
  intro i hi
  have hlt : i < 32 := List.mem_range.mp (List.mem_filter.mp hi).1
  exact Option.isSome_iff_exists.mpr (exists_catalog_entry hlt)

/-- Settles O21: the names are the catalog's entries at a sublist of its indices, and the catalog repeats none. -/
theorem faultNamesListsTheSetBits : Obligations.FaultNamesListsTheSetBits := fun vec =>
  ⟨fun _ hi _ hn => mem_faultNames_iff hi hn, faultNames_sublist_catalog vec,
    catalog_nodup.sublist (faultNames_sublist_catalog vec), length_faultNames vec⟩

/-- Settles O22: a bit is set exactly when its name is listed. -/
theorem faultNamesDetermineTheVector : Obligations.FaultNamesDetermineTheVector := by
  intro v w h
  refine BitVec.eq_of_getLsbD_eq fun i hi => ?_
  obtain ⟨n, hn⟩ := exists_catalog_entry hi
  rw [Bool.eq_iff_iff, ← mem_faultNames_iff hi hn, h, mem_faultNames_iff hi hn]

end Sys2Proof.Machine

/-! What each message does: the exact next state of its row, its fields in the sums of 41_field_extractor.md, and the
router's result by length and identifier (44_router_dispatch.md R180 to R196, 10_state.md R27). -/

namespace Sys2Proof.Machine

/-! ### The router by length and identifier (R180) -/

/-- Settles O38, test by test. -/
theorem routerCases : Obligations.RouterCases := by
  refine fun f => ⟨routeFrame_refused, routeFrame_fault, fun hl hid hlo hhi => ?_, fun hl hr => ?_⟩
  · rw [routeFrame_dispatch hl hid ⟨hlo, hhi⟩, msgType_eq_ofNat ⟨hlo, hhi⟩]
  · have hout : ¬ (0xA0 ≤ f.id.toNat ∧ f.id.toNat ≤ 0xCF) := by omega
    exact routeFrame_dropped hl (ne_faultId_of_not_inRange hout) hout

/-! ### The fields of a body in the sums of R104 to R109 -/

section
variable (f : Frame)

theorem extU8_eq_paddedByte (k : Offset 1) : extU8 f k = BitVec.ofNat 8 (paddedByte f.len f.data k) := by
  rw [extU8_eq, ← payloadView_toNat, BitVec.ofNat_toNat, BitVec.setWidth_eq]

/-- The two bytes of a word at offset k are those at the indices k and k + 1. -/
theorem extU16_toNat_eq_paddedWord (k : Offset 2) :
    (extU16 f k).toNat = paddedWord f.len f.data k.castSucc k.succ := by
  rw [extU16_toNat, leValue_two, payloadView_toNat, payloadView_toNat]
  rfl

theorem extU16_eq_paddedWord (k : Offset 2) :
    extU16 f k = BitVec.ofNat 16 (paddedWord f.len f.data k.castSucc k.succ) := by
  rw [← extU16_toNat_eq_paddedWord, BitVec.ofNat_toNat, BitVec.setWidth_eq]

theorem decSignedScaled_eq_signalAt (k : Offset 2) (d : Divisor) (u : UnitTag) :
    decSignedScaled f k d u = signalAt f.len f.data k.castSucc k.succ d u := by
  rw [decSignedScaled, extS16_eq_signedOf, extU16_toNat_eq_paddedWord, signalAt]

theorem decAngularVelocity_eq_signalAt (k : Offset 2) :
    decAngularVelocity f k = signalAt f.len f.data k.castSucc k.succ .unit .rpm := by
  rw [decAngularVelocity, extS16_eq_signedOf, extU16_toNat_eq_paddedWord, signalAt]

/-- The tick count of TORQUE_TIMER, the one 32-bit field, is two words (R53, R195). -/
theorem extU32_four_toNat :
    (extU32 f 4).toNat = paddedWord f.len f.data 4 5 + 65536 * paddedWord f.len f.data 6 7 := by
  have hlo : (extU16 f 4).toNat = paddedWord f.len f.data 4 5 := extU16_toNat_eq_paddedWord f 4
  have hhi : (extU16 f 6).toNat = paddedWord f.len f.data 6 7 := extU16_toNat_eq_paddedWord f 6
  rw [← hlo, ← hhi, extU16_toNat, extU16_toNat, extU32_toNat]
  exact leValue_add f 4 2 2 (by decide)

theorem extU32_four_eq_ofNat :
    extU32 f 4 = BitVec.ofNat 32 (paddedWord f.len f.data 4 5 + 65536 * paddedWord f.len f.data 6 7) := by
  rw [← extU32_four_toNat, BitVec.ofNat_toNat, BitVec.setWidth_eq]

theorem ticksToSeconds_extU32_four :
    ticksToSeconds (extU32 f 4) =
      { num := 3 * (paddedWord f.len f.data 4 5 + 65536 * paddedWord f.len f.data 6 7), div := 1000, unit := .s } := by
  rw [ticksToSeconds, extU32_four_toNat]

end

/-! ### A legal frame of a row with a record (R27) -/

/-- A well-formed instruction is decoded from its own frame, and with PEND none its meaning latches the frame, takes
the offer and puts the record of its row's body in PEND. -/
theorem record_completes {i : Instr} {f : Frame} {body : Frame → Body} {r : Record} {s : State}
    (hf : encodeFrame i = f) (hres : i.result = recordOf body) (hw : i.wellFormed = true) (hp : s.pend = none)
    (hr : mkRecord f (body f) = r) :
    decodeFrame f = i ∧
      exec i s = .next { s with latch := f, offered := none, accepted := s.accepted ++ [f], pend := some r } := by
  subst hf hr
  refine ⟨decodeFrame_encodeFrame hw, ?_⟩
  rw [exec_of_pend_none hp, hres]
  rfl

/-! ### Six rows of four signed words (R74) -/

/-- Settles O24: the four words of R188. -/
theorem temps1Record : Obligations.Temps1Record := by
  intro len data s hl hp
  refine record_completes rfl rfl ((legal_iff len).mpr hl) hp ?_
  simp only [temps1Body, decSignedScaled_eq_signalAt]
  rfl

/-- Settles O25: the four words of R189. -/
theorem temps2Record : Obligations.Temps2Record := by
  intro len data s hl hp
  refine record_completes rfl rfl ((legal_iff len).mpr hl) hp ?_
  simp only [temps2Body, decSignedScaled_eq_signalAt]
  rfl

/-- Settles O26: the three temperatures and the torque of R190. -/
theorem temps3Record : Obligations.Temps3Record := by
  intro len data s hl hp
  refine record_completes rfl rfl ((legal_iff len).mpr hl) hp ?_
  simp only [temps3Body, decSignedScaled_eq_signalAt]
  rfl

/-- Settles O27: three scaled words and the unscaled angular velocity of R191. -/
theorem motorPositionRecord : Obligations.MotorPositionRecord := by
  intro len data s hl hp
  refine record_completes rfl rfl ((legal_iff len).mpr hl) hp ?_
  simp only [motorPositionBody, decSignedScaled_eq_signalAt, decAngularVelocity_eq_signalAt]
  rfl

/-- Settles O28: the four words of R192. -/
theorem currentsRecord : Obligations.CurrentsRecord := by
  intro len data s hl hp
  refine record_completes rfl rfl ((legal_iff len).mpr hl) hp ?_
  simp only [currentsBody, decSignedScaled_eq_signalAt]
  rfl

/-- Settles O29: the four words of R193. -/
theorem voltagesRecord : Obligations.VoltagesRecord := by
  intro len data s hl hp
  refine record_completes rfl rfl ((legal_iff len).mpr hl) hp ?_
  simp only [voltagesBody, decSignedScaled_eq_signalAt]
  rfl

/-! ### The other rows with a schema -/

/-- Settles O30: the four bytes of R194 and the labels their tables give. -/
theorem internalStatesRecord : Obligations.InternalStatesRecord := by
  intro len data s hl hp
  refine record_completes rfl rfl ((legal_iff len).mpr hl) hp ?_
  simp only [internalStatesBody, extU8_eq_paddedByte]
  rfl

/-- Settles O31: the two torques of R195, and the tick count as two words. -/
theorem torqueTimerRecord : Obligations.TorqueTimerRecord := by
  intro len data s hl hp
  refine record_completes rfl rfl ((legal_iff len).mpr hl) hp ?_
  rw [torqueTimerBody, ticksToSeconds_extU32_four, extU32_four_eq_ofNat]
  simp only [decSignedScaled_eq_signalAt]
  rfl

/-- Settles O32: the four words of R187, and FAULT_TEST of two words is their concatenation. -/
theorem faultRecord : Obligations.FaultRecord := by
  intro len data s hl hp
  refine record_completes rfl rfl ((legal_iff len).mpr hl) hp ?_
  simp only [faultBody, faultTest_eq_append, extU16_eq_paddedWord]
  rfl

/-! ### The rows without a schema (R196) -/

/-- An UNHANDLED record is its type code, never short. -/
theorem mkRecord_unhandledBody (t : MsgType) (f : Frame) :
    mkRecord f (unhandledBody t f) = { short := false, body := .unhandled { typeCode := t } } := by
  rw [mkRecord, unhandledBody, Body.kind, shortFlag_unhandled]

/-- A row without a schema completes with the record of its type. -/
theorem unhandled_completes {i : Instr} {f : Frame} {t : MsgType} {s : State} (hf : encodeFrame i = f)
    (hres : i.result = recordOf (unhandledBody t)) (hw : i.wellFormed = true) (hp : s.pend = none) :
    decodeFrame f = i ∧
      exec i s = .next
        { s with
          latch := f
          offered := none
          accepted := s.accepted ++ [f]
          pend := some { short := false, body := .unhandled { typeCode := t } } } :=
  record_completes hf hres hw hp (mkRecord_unhandledBody t f)

/-- The type of a row with open bits is the row's first type and the value of its open bits. -/
theorem ofNat_add_setWidth (n : Nat) {w : Nat} (low : BitVec w) :
    BitVec.ofNat 6 n + low.setWidth 6 = BitVec.ofNat 6 (n + low.toNat) := by
  rw [BitVec.ofNat_add, BitVec.ofNat_toNat]

/-- A type's identifier is BASE_ID and the type (R183). -/
theorem typeFrame_ofNat {n : Nat} (hn : n < 64) (len : Len) (data : Payload) :
    typeFrame (BitVec.ofNat 6 n) len data = ⟨BitVec.ofNat 32 (0xA0 + n), len, data⟩ := by
  rw [typeFrame, BitVec.ofNat_add, BitVec.setWidth_ofNat_of_le_of_lt (by decide) hn]
  rfl

/-- As `unhandled_completes`, for a row with open bits whose first type is n. -/
theorem unhandled_open_completes {i : Instr} {n w : Nat} {low : BitVec w} {len : Len} {data : Payload} {s : State}
    (hf : encodeFrame i = typeFrame (BitVec.ofNat 6 n + low.setWidth 6) len data)
    (hres : i.result = recordOf (unhandledBody (BitVec.ofNat 6 n + low.setWidth 6))) (hn : n + 2 ^ w ≤ 64)
    (hw : i.wellFormed = true) (hp : s.pend = none) :
    decodeFrame ⟨BitVec.ofNat 32 (0xA0 + n + low.toNat), len, data⟩ = i ∧
      exec i s = .next
        { s with
          latch := ⟨BitVec.ofNat 32 (0xA0 + n + low.toNat), len, data⟩
          offered := none
          accepted := s.accepted ++ [⟨BitVec.ofNat 32 (0xA0 + n + low.toNat), len, data⟩]
          pend := some { short := false, body := .unhandled { typeCode := BitVec.ofNat 6 (n + low.toNat) } } } := by
  have hlow := low.isLt
  rw [ofNat_add_setWidth] at hf hres
  rw [typeFrame_ofNat (by omega), ← Nat.add_assoc] at hf
  exact unhandled_completes hf hres hw hp

/-- Settles O33: three rows of one type and four with open bits. -/
theorem unhandledRecords : Obligations.UnhandledRecords := by
  intro len data s hl hp
  have hlegal : Len.legal len = true := (legal_iff len).mpr hl
  refine ⟨?_, ?_, fun low => ?_, ?_, fun low => ?_, fun low => ?_, fun low => ?_⟩
  · exact unhandled_completes rfl rfl hlegal hp
  · exact unhandled_completes rfl rfl hlegal hp
  · exact unhandled_open_completes (n := 0x08) rfl rfl (by decide) hlegal hp
  · exact unhandled_completes rfl rfl hlegal hp
  · exact unhandled_open_completes (n := 0x0E) rfl rfl (by decide) hlegal hp
  · exact unhandled_open_completes (n := 0x10) rfl rfl (by decide) hlegal hp
  · exact unhandled_open_completes (n := 0x20) rfl rfl (by decide) hlegal hp

/-! ### A frame that is dropped (R186) -/

/-- Settles O34: DROP's frame is latched and its result changes nothing more. -/
theorem dropConsumesTheFrame : Obligations.DropConsumesTheFrame :=
  fun id len data _ hw hp => ⟨decodeFrame_encodeFrame hw, exec_of_pend_none hp (.drop id len data)⟩

end Sys2Proof.Machine

/-! The outcomes of a frame and of a step: which outcome code describes a result, that every step goes on, and what
sets the refusal mark (60_exceptions.md R220 to R224). -/

namespace Sys2Proof.Machine

/-! ### Which result each outcome code describes (R221) -/

theorem describes_refusedLen_iff (res : DecodeResult) :
    OutcomeCode.REFUSED_LEN.describes res = true ↔ res = .refused .lenRange := by
  rcases res with r | _ | ⟨⟨⟩⟩ <;> simp [OutcomeCode.describes]

theorem describes_dropped_iff (res : DecodeResult) : OutcomeCode.DROPPED.describes res = true ↔ res = .dropped := by
  rcases res with r | _ | ⟨⟨⟩⟩ <;> simp [OutcomeCode.describes]

theorem describes_unhandledType_iff (res : DecodeResult) :
    OutcomeCode.UNHANDLED_TYPE.describes res = true ↔ ∃ r, res = .record r ∧ r.kind = .UNHANDLED := by
  rcases res with r | _ | ⟨⟨⟩⟩ <;> simp [OutcomeCode.describes]

theorem describes_unknownState_iff (res : DecodeResult) :
    OutcomeCode.UNKNOWN_STATE.describes res = true ↔ ∃ r, res = .record r ∧ r.body.hasUnknown = true := by
  rcases res with r | _ | ⟨⟨⟩⟩ <;> simp [OutcomeCode.describes]

/-! ### Which frames have each result (R180) -/

/-- The three results exclude each other: a long frame is refused, a legal one of the offset range, FAULT_ID among
it, has a record, and any other is dropped. -/
theorem routeFrame_cases (f : Frame) :
    (8 < f.len.toNat ∧ routeFrame f = .refused .lenRange) ∨
    (f.len.toNat ≤ 8 ∧ (0xA0 ≤ f.id.toNat ∧ f.id.toNat ≤ 0xCF) ∧ ∃ r, routeFrame f = .record r) ∨
    (f.len.toNat ≤ 8 ∧ ¬ (0xA0 ≤ f.id.toNat ∧ f.id.toNat ≤ 0xCF) ∧ routeFrame f = .dropped) := by
  by_cases hl : 8 < f.len.toNat
  · exact .inl ⟨hl, routeFrame_refused hl⟩
  rw [not_lt] at hl
  by_cases hr : 0xA0 ≤ f.id.toNat ∧ f.id.toNat ≤ 0xCF
  · refine .inr (.inl ⟨hl, hr, ?_⟩)
    by_cases hid : f.id = Config.faultId
    · exact ⟨_, routeFrame_fault hl hid⟩
    · exact ⟨_, routeFrame_dispatch hl hid hr⟩
  · exact .inr (.inr ⟨hl, hr, routeFrame_dropped hl (ne_faultId_of_not_inRange hr) hr⟩)

theorem routeFrame_eq_refused_iff (f : Frame) : routeFrame f = .refused .lenRange ↔ 8 < f.len.toNat := by
  obtain ⟨hl, h⟩ | ⟨hl, -, r, h⟩ | ⟨hl, -, h⟩ := routeFrame_cases f <;> simp [h, hl]

theorem routeFrame_eq_dropped_iff (f : Frame) :
    routeFrame f = .dropped ↔ f.len.toNat ≤ 8 ∧ ¬ (0xA0 ≤ f.id.toNat ∧ f.id.toNat ≤ 0xCF) := by
  obtain ⟨hl, h⟩ | ⟨-, hr, r, h⟩ | ⟨hl, hr, h⟩ := routeFrame_cases f
  · rw [h]
    exact iff_of_false nofun fun ⟨hle, _⟩ => absurd hl (not_lt.mpr hle)
  · rw [h]
    exact iff_of_false nofun fun ⟨_, hout⟩ => hout hr
  · exact iff_of_true h ⟨hl, hr⟩

theorem len_le_of_routeFrame_record {f : Frame} {r : Record} (h : routeFrame f = .record r) : f.len.toNat ≤ 8 := by
  rw [← not_lt, ← routeFrame_eq_refused_iff, h]
  nofun

/-! ### Records without a schema, and with an unknown label -/

/-- One case per line of `DISPATCH` (R184): the last takes the types without a schema. -/
theorem dispatchBody_kind_unhandled_iff {t : MsgType} (ht : t.toNat ≤ 0x2F) (hb : t.toNat ≠ 0x0B) (f : Frame) :
    (dispatchBody t f).kind = .UNHANDLED ↔ MsgType.unhandled t = true := by
  rw [MsgType.unhandled_iff]
  unfold dispatchBody
  split
  case h_9 =>
    simp only [imp_false] at *
    exact iff_of_true rfl (by omega)
  all_goals exact iff_of_false nofun (by omega)

/-- The UNHANDLED records are those of the legal in-range frames of a type without a schema; 0x0B, which FAULT_ID
shadows, is none of them (R82, R196). -/
theorem routeFrame_unhandled_iff (f : Frame) : (∃ r, routeFrame f = .record r ∧ r.kind = .UNHANDLED) ↔
    f.len.toNat ≤ 8 ∧ (0xA0 ≤ f.id.toNat ∧ f.id.toNat ≤ 0xCF) ∧ MsgType.unhandled (msgType f.id) = true := by
  have hkind (hid : f.id ≠ Config.faultId) (hr : 0xA0 ≤ f.id.toNat ∧ f.id.toNat ≤ 0xCF) :
      (dispatchBody (msgType f.id) f).kind = .UNHANDLED ↔ MsgType.unhandled (msgType f.id) = true :=
    dispatchBody_kind_unhandled_iff (by rw [msgType_toNat hr]; omega) (msgType_ne_shadowed hid hr) f
  constructor
  · rintro ⟨r, h, hk⟩
    obtain ⟨-, rfl⟩ | ⟨hid, hr, rfl⟩ := routeFrame_record_id_cases h
    · cases hk
    · exact ⟨len_le_of_routeFrame_record h, hr, (hkind hid hr).mp hk⟩
  · rintro ⟨hl, hr, hu⟩
    have hid : f.id ≠ Config.faultId := by
      intro hid
      rw [hid] at hu
      exact absurd hu (by decide)
    exact ⟨_, routeFrame_dispatch hl hid hr, (hkind hid hr).mpr hu⟩

/-- Only INTERNAL_STATES has labels (R29). -/
theorem Body.kind_of_hasUnknown {b : Body} (h : b.hasUnknown = true) : b.kind = .INTERNAL_STATES := by
  cases b
  case internalStates => rfl
  all_goals cases h

theorem hasUnknown_internalStatesBody_iff (f : Frame) : (internalStatesBody f).hasUnknown = true ↔
    vsmTable (payloadView f 0) = .UNKNOWN ∨ invTable (payloadView f 2) = .UNKNOWN := by
  simp [internalStatesBody, Body.hasUnknown, vsmLabel, invLabel, extU8_eq]

theorem routeFrame_internalStates {f : Frame} (hl : f.len.toNat ≤ 8) (hid : f.id = 0xAA#32) :
    routeFrame f = .record (mkRecord f (internalStatesBody f)) := by
  rw [routeFrame_dispatch hl (by rw [hid]; decide) (by rw [hid]; decide), hid]
  rfl

theorem routeFrame_hasUnknown_iff (f : Frame) : (∃ r, routeFrame f = .record r ∧ r.body.hasUnknown = true) ↔
    f.len.toNat ≤ 8 ∧ f.id = 0xAA#32 ∧
      (vsmTable (payloadView f 0) = .UNKNOWN ∨ invTable (payloadView f 2) = .UNKNOWN) := by
  rw [← hasUnknown_internalStatesBody_iff]
  constructor
  · rintro ⟨r, h, hu⟩
    have hl := len_le_of_routeFrame_record h
    have hid : f.id = 0xAA#32 := (record_kind_iff h (k := .INTERNAL_STATES) nofun).mp (Body.kind_of_hasUnknown hu)
    obtain rfl := DecodeResult.record.inj ((routeFrame_internalStates hl hid).symm.trans h)
    exact ⟨hl, hid, hu⟩
  · rintro ⟨hl, hid, hu⟩
    exact ⟨_, routeFrame_internalStates hl hid, hu⟩

/-- Settles O41: each code describes one form of result, and each form of result belongs to the frames named. -/
theorem outcomeCodesOfEveryFrame : Obligations.OutcomeCodesOfEveryFrame := by
  intro f
  refine ⟨?_, ?_, ?_, ?_, fun r h => ?_⟩
  · rw [describes_refusedLen_iff, routeFrame_eq_refused_iff]
  · rw [describes_dropped_iff, routeFrame_eq_dropped_iff]
    omega
  · rw [describes_unhandledType_iff, routeFrame_unhandled_iff, and_assoc]
    refine and_congr_right fun _ => and_congr_right fun hlo => and_congr_right fun hhi => ?_
    rw [msgType_eq_ofNat ⟨hlo, hhi⟩]
  · rw [describes_unknownState_iff, routeFrame_hasUnknown_iff]
  · rw [h]
    exact ⟨rfl, rfl⟩

/-! ### Every step goes on (R220) -/

theorem exists_next_blockStep (s : State) : ∃ t, blockStep s = .next t := by
  cases hp : s.pend with
  | some r => exact ⟨_, blockStep_pend_some hp⟩
  | none =>
    cases ho : s.offered with
    | some f => exact ⟨_, blockStep_accept hp ho⟩
    | none => exact ⟨_, blockStep_idle hp ho⟩

/-- Settles O47: a step is a host move, or the block's move, which goes on. -/
theorem everyStepGoesOn : Obligations.EveryStepGoesOn := by
  intro s
  obtain ⟨m, rest, -, -, -, hstep⟩ | ⟨-, ts, hstep⟩ := step_cases s
  · exact ⟨_, hstep⟩
  · rw [hstep]
    exact exists_next_blockStep _

/-! ### The refusal mark (R224) -/

theorem applyResult_refusalMark_iff (res : DecodeResult) (s : State) :
    (applyResult res s).refusalMark = true ↔ s.refusalMark = true ∨ res = .refused .lenRange := by
  by_cases h : res = .refused .lenRange
  · subst h
    exact iff_of_true rfl (.inr rfl)
  · rw [applyResult_refusalMark h, or_iff_left h]

theorem hostMove_refusalMark {m : HostMove} (h : m ≠ .reset) (s : State) :
    (hostMove m s).refusalMark = s.refusalMark := by
  cases m with
  | offer f => rfl
  | sink k => rfl
  | reset => exact absurd rfl h

/-- Settles O52: of the steps outside a reset only ACCEPT touches the mark, and it sets it when the router refuses. -/
theorem markIsSticky : Obligations.MarkIsSticky := by
  intro s t h hres
  cases Move.of_step h with
  | host ts hh =>
    rw [hostMove_refusalMark (fun hm => hres (hm ▸ hh))]
    simp [accepts_of_host hh]
  | hold ts _ hp _ => simp [accepts_of_pend_some hp]
  | deliver ts _ hp _ => simp [accepts_of_pend_some hp]
  | accept ts hh hp ho =>
    rw [applyResult_refusalMark_iff, routeFrame_eq_refused_iff]
    simp [accepts_of_pend_none hh hp, ho]
  | idle ts hh hp ho => simp [accepts_of_pend_none hh hp, ho]

/-- Settles O35: REFUSE's frame is latched and its result sets the mark. -/
theorem refuseSetsTheMark : Obligations.RefuseSetsTheMark :=
  fun id len data _ hw hp => ⟨decodeFrame_encodeFrame hw, exec_of_pend_none hp (.refuse id len data)⟩

end Sys2Proof.Machine

/-! Reset and hazards: the host's reset and its offers, what the block does within the turns planned, and a stream of
frames from its first offer to the end of its run (70_reset_and_hazards.md R250 to R257). -/

namespace Sys2Proof.Machine

/-! ### The host's reset and its offers (R250, R253) -/

/-- Settles O49: the host may always reset, and the step is that move. -/
theorem hostResetEmptiesTheBlock : Obligations.HostResetEmptiesTheBlock :=
  fun s rest ht => ⟨resetBlock { s with turns := rest }, step_of_host_turn ht rfl, rfl, rfl, rfl, rfl, rfl, rfl, rfl⟩

/-- A second offer waits while one is on the channel, so only reset takes a frame off it (log 7). -/
theorem hostMove_offered {m : HostMove} {s : State} {f : Frame} (hm : hostMayMove m s = true) (hr : m ≠ .reset)
    (ho : s.offered = some f) : (hostMove m s).offered = some f := by
  cases m with
  | offer g => simp [hostMayMove, ho] at hm
  | sink k => exact ho
  | reset => exact absurd rfl hr

theorem hostMayMove_of_hostTurn {s : State} {m : HostMove} (h : s.hostTurn = some m) : hostMayMove m s = true := by
  obtain ⟨m', _, -, hm, hh, -⟩ | ⟨hh, -⟩ := step_cases s
  · rwa [Option.some.inj (h.symm.trans hh)]
  · exact absurd (h.symm.trans hh) nofun

/-- Settles O54: of the steps outside a reset only ACCEPT touches the channel or the latch while a frame is offered. -/
theorem offerIsHeldUntilAccepted : Obligations.OfferIsHeldUntilAccepted := by
  intro s t f h ho hres
  cases Move.of_step h with
  | @host m ts hh =>
    have hm : m ≠ .reset := fun hm => hres (hm ▸ hh)
    have hmay := hostMayMove_of_hostTurn hh
    rw [if_neg (by simp [hh])]
    exact ⟨hostMove_offered (s := { s with turns := ts }) hmay hm ho, hostMove_latch hm _⟩
  | hold ts _ hp _ => simp [hp, ho]
  | deliver ts _ hp _ => simp [hp, ho]
  | @accept g ts hh hp hg =>
    obtain rfl : g = f := Option.some.inj (hg.symm.trans ho)
    simp [hp, hh]
  | idle ts _ _ hn => exact absurd (hn.symm.trans ho) nofun

/-! ### The block's turn comes (R257) -/

@[simp] theorem hostMove_turns (m : HostMove) (s : State) : (hostMove m s).turns = s.turns := by
  cases m <;> rfl

theorem stepN_one (s : State) : stepN 1 s = step s := by
  unfold stepN
  cases step s <;> rfl

/-- Each host move uses up a turn, so the block moves after at most all of them, and in the state it moves from holds
what the planned host moves keep. -/
theorem exists_blockStep_within_turns {ok : Turn → Bool} {P : State → Prop}
    (hkeep : ∀ m ts s, ok (.host m) = true → hostMayMove m s = true → P s → P (hostMove m { s with turns := ts }))
    (s : State) (hok : s.turns.all ok = true) (hP : P s) :
    ∃ n u ts, n ≤ s.turns.length ∧ P u ∧ stepN (n + 1) s = blockStep { u with turns := ts } := by
  induction hts : s.turns generalizing s with
  | nil => exact ⟨0, s, [], le_rfl, hP, by rw [stepN_one, step_of_no_turn hts, ← hts]⟩
  | cons turn rest ih =>
    obtain ⟨m, rest', ht, hm, -, hstep⟩ | ⟨-, ts, hstep⟩ := step_cases s
    · obtain ⟨rfl, rfl⟩ := List.cons.inj (hts.symm.trans ht)
      rw [ht, List.all_cons, Bool.and_eq_true] at hok
      obtain ⟨hhead, htail⟩ := hok
      obtain ⟨n, u, ts, hn, hu, hrun⟩ :=
        ih (hostMove m { s with turns := rest }) (by simpa using htail) (hkeep m rest s hhead hm hP) (by simp)
      exact ⟨n + 1, u, ts, Nat.succ_le_succ hn, hu, (stepN_succ hstep _).trans hrun⟩
    · exact ⟨0, s, ts, Nat.zero_le _, hP, (stepN_one s).trans hstep⟩

/-- Settles O58: no host move but reset touches PEND or an offered frame, and the block's move is ACCEPT. -/
theorem offeredFrameIsAccepted : Obligations.OfferedFrameIsAccepted := by
  intro s f hp ho hturns
  obtain ⟨n, u, ts, hn, ⟨hpu, hou⟩, hrun⟩ :=
    exists_blockStep_within_turns (P := fun s => s.pend = none ∧ s.offered = some f)
      (fun m ts s hok hm ⟨hp, ho⟩ =>
        have hr : m ≠ .reset := by simpa using hok
        ⟨(hostMove_pend hr _).trans hp, hostMove_offered (s := { s with turns := ts }) hm hr ho⟩)
      s hturns ⟨hp, ho⟩
  rw [blockStep_accept (s := { u with turns := ts }) hpu hou] at hrun
  exact ⟨n + 1, _, Nat.succ_le_succ hn, hrun, by simp, by simp, by simp [hpu]⟩

/-- Settles O59: an offer touches neither PEND nor the sink nor the records delivered, and the block's move is
DELIVER. -/
theorem pendingRecordIsDelivered : Obligations.PendingRecordIsDelivered := by
  intro s r hp hs hturns
  obtain ⟨n, u, ts, hn, ⟨hpu, hsu, hdu⟩, hrun⟩ :=
    exists_blockStep_within_turns (P := fun t => t.pend = some r ∧ t.sink ≠ .hold ∧ t.delivered = s.delivered)
      (fun m ts t hok _ ht => by
        cases m with
        | offer g => exact ht
        | sink k => cases hok
        | reset => cases hok)
      s hturns ⟨hp, hs, rfl⟩
  rw [blockStep_deliver (s := { u with turns := ts }) hpu hsu] at hrun
  exact ⟨n + 1, _, Nat.succ_le_succ hn, hrun, by simp, by simp [hdu]⟩

/-! ### A stream of frames (R256) -/

/-- The block and the channel are empty and the sink is always ready. -/
structure State.AwaitsFrame (s : State) : Prop where
  pend : s.pend = none
  offered : s.offered = none
  sink : s.sink = .always

/-- What the frames `fs` have made of `s` once each was accepted and its record, if it has one, delivered. -/
structure Streamed (s : State) (fs : List Frame) (t : State) : Prop extends t.AwaitsFrame where
  accepted : t.accepted = s.accepted ++ fs
  delivered : t.delivered = s.delivered ++ fs.filterMap fun f => (routeFrame f).toRecord
  mark : t.refusalMark = true ↔ s.refusalMark = true ∨ ∃ f ∈ fs, 8 < f.len.toNat

theorem Streamed.nil {s : State} (h : s.AwaitsFrame) : Streamed s [] s :=
  ⟨h, by simp, by simp, by simp⟩

theorem Streamed.append {s t u : State} {fs gs : List Frame} (h : Streamed s fs t) (h' : Streamed t gs u) :
    Streamed s (fs ++ gs) u where
  toAwaitsFrame := h'.toAwaitsFrame
  accepted := by rw [h'.accepted, h.accepted, List.append_assoc]
  delivered := by rw [h'.delivered, h.delivered, List.filterMap_append, List.append_assoc]
  mark := by simp only [h'.mark, h.mark, List.mem_append, or_and_right, exists_or, or_assoc]

theorem step_accepts_offered {s : State} {f : Frame} {rest : List Turn} (hp : s.pend = none)
    (ho : s.offered = some f) (ht : s.turns = .block :: rest) :
    step s = .next (applyResult (routeFrame f) (latchFrame f { s with turns := rest })) := by
  rw [step_of_block_turn ht, blockStep_accept (s := { s with turns := rest }) hp ho]

/-- The block's turn with an always ready sink and nothing offered: PEND's record, if it holds one, is delivered. -/
theorem step_delivers_pend {s : State} {rest : List Turn} (ho : s.offered = none) (hs : s.sink = .always)
    (ht : s.turns = .block :: rest) :
    step s = .next { s with turns := rest, pend := none, delivered := s.delivered ++ s.pend.toList } := by
  cases hp : s.pend with
  | some r =>
    rw [step_of_block_turn ht, blockStep_deliver (s := { s with turns := rest }) hp (by simp [hs])]
    simp [deliver, hs, Sink.afterDeliver]
  | none =>
    rw [step_of_block_turn ht, blockStep_idle (s := { s with turns := rest }) hp ho]
    simp [hp]

/-- The three turns of one frame: the host offers it, the block accepts it, and the block delivers its record. -/
theorem exists_streamed_singleton {s : State} {f : Frame} {rest : List Turn} (h : s.AwaitsFrame)
    (ht : s.turns = .host (.offer f) :: .block :: .block :: rest) :
    ∃ t, (∀ n, stepN (n + 3) s = stepN n t) ∧ t.turns = rest ∧ Streamed s [f] t := by
  have hoffer := step_of_host_turn ht (by simp [hostMayMove, h.offered])
  have haccept := step_accepts_offered (rest := .block :: rest)
    (s := { s with turns := .block :: .block :: rest, offered := some f }) h.pend rfl rfl
  have hdeliver := step_delivers_pend (rest := rest)
    (s := applyResult (routeFrame f) (latchFrame f { s with turns := .block :: rest, offered := some f }))
    (by simp) (by simp [h.sink]) (by simp)
  refine ⟨_, fun n => (stepN_succ hoffer _).trans ((stepN_succ haccept _).trans (stepN_succ hdeliver n)), rfl,
    ⟨rfl, by simp, by simp [h.sink]⟩, by simp, ?_, ?_⟩
  · cases hr : (routeFrame f).toRecord <;> simp [h.pend, hr]
  · simp [applyResult_refusalMark_iff, routeFrame_eq_refused_iff]

theorem exists_streamed (fs : List Frame) {s : State} (h : s.AwaitsFrame) (ht : s.turns = streamTurns fs) :
    ∃ t, stepN (3 * fs.length) s = .next t ∧ Streamed s fs t := by
  induction fs generalizing s with
  | nil => exact ⟨s, rfl, .nil h⟩
  | cons f fs ih =>
    obtain ⟨u, hrun, htu, hu⟩ := exists_streamed_singleton h ht
    obtain ⟨t, hrest, hfs⟩ := ih hu.toAwaitsFrame htu
    exact ⟨t, (hrun _).trans hrest, hu.append hfs⟩

/-- Settles O60: the end of the stream has accepted every frame and delivered every record. -/
theorem streamDeliversEveryRecordInOrder : Obligations.StreamDeliversEveryRecordInOrder := by
  intro fs s hp ho hs ht
  obtain ⟨t, hrun, h⟩ := exists_streamed fs ⟨hp, ho, hs⟩ ht
  refine ⟨t, hrun, by simp [State.runEnded, h.accepted, h.pend], h.mark, fun hu => ?_⟩
  have hclear : t.refusalMark = false := by
    obtain ⟨-, hmark⟩ := Bool.and_eq_true_iff.mp hu
    simpa using hmark
  rw [State.runResult, h.delivered, hclear]

end Sys2Proof.Machine
